-- ==== Sys2Proof/Word.lean ====
section
/-! DEFINITION. The machine's data widths: 32-bit words (00_scope.md R6) and bytes. -/
namespace Sys2Proof

/-- A 32-bit register, address or instruction word (00_scope.md R6, R9). -/
abbrev Word := BitVec 32

/-- One byte of memory, the smallest addressable unit (20_memory.md R63). -/
abbrev Byte := BitVec 8

end Sys2Proof
end

