-- ==== Sys2Proof/Config.lean ====
section
/-! DEFINITION. What the sources leave open (00_scope.md R7, 93_implementation_defined.md): constants without a
body. Nothing in Lean can evaluate them, so a proof about the machine holds for every value they may have. -/
namespace Sys2Proof.Config

/-- Selects EPC_M_BIT among bits 3:0 of EPC (decision D15; log 8). -/
opaque epcMSelect : Fin 4

/-- Selects EPC_IF_BIT among the three low bits of EPC that are not EPC_M_BIT (decision D15; log 8). -/
opaque epcIfSelect : Fin 3

/-- Selects ENC_MFHI among the seven unassigned control codes 0000, 1010 to 1111 (decision D14; log 9). -/
opaque mfhiSelect : Fin 7

/-- Selects ENC_MTHI among the six unassigned control codes that are not ENC_MFHI (decision D14; log 9). -/
opaque mthiSelect : Fin 6

/-- CMPBC_READING: true for all_clear, false for any_clear (decision D21; log 10). -/
opaque cmpbcAllClear : Bool

/-- DIV_SIGNED (decision D12; log 11). -/
opaque divSigned : Bool

/-- CACHE_LINE_BYTES is 4 times 2 to this power (decision D39; log 12). -/
opaque lineLog : Nat

/-- FAULT_PACKET_STORE: whether the trap taken at this tick performs the store of this lane, which did not fault
(decision D4). DESIGN CHOICE: a choice for each store, where 00_scope.md R7 does not say whether it is made for each
store or once for each packet (log 13). -/
opaque faultPacketStore : Nat → Nat → Bool

/-- Bits 31:8 and bit 0 that the trap at this tick writes into the error cause register of this lane
(93_implementation_defined.md U6; log 14). -/
opaque errorCauseBits : Nat → Nat → BitVec 25

/-- Which of the bytes it may see an access to the L2 view or the instruction cache sees: tick, access, address
(93_implementation_defined.md U14; log 15, log 16). -/
opaque viewChoice : Nat → Nat → Nat → Nat

/-- The codes IrqSource reports at the packet boundary of this tick, bit k for code k (60_exceptions.md R334,
93_implementation_defined.md U19; log 7). -/
opaque irqSource : Nat → BitVec 4

/-- What an address where no RAM stands answers to a read: tick, access, address (20_memory.md R75,
93_implementation_defined.md U19; log 6). -/
opaque deviceByte : Nat → Nat → Nat → BitVec 8

/-- Which of the translations it may use an access uses: tick, access (93_implementation_defined.md U14, U23; log 17). -/
opaque tlbChoice : Nat → Nat → Nat

end Sys2Proof.Config
end

