-- ==== Sys2Proof/Syntax.lean ====
section
/-! DEFINITION. Instruction syntax: one constructor of `Instr` per row of spec/opcode_table.json
(30_encoding.md R138), and the operand types its fields have. -/
namespace Sys2Proof

/-- A general register number R0 to R31 (10_state.md R20). -/
abbrev Reg := Fin 32

/-- A predicate register number P0 to P3 (10_state.md R26). -/
abbrev PredReg := Fin 4

/-- A coprocessor register number, assigned or not (10_state.md R31, R47). -/
abbrev CopNum := Fin 32

/-- The PRED field of every instruction: a predicate register, optionally inverted (30_encoding.md R111). -/
structure Pred where
  reg : PredReg
  inv : Bool
deriving DecidableEq, Repr

/-- The SHF field (30_encoding.md R130). -/
inductive ShiftType where
  | lsl
  | lsr
  | asr
  | ror
deriving DecidableEq, Repr

/-- The TYPE field of FLUSH (30_encoding.md R136). -/
inductive FlushType where
  | data
  | inst
  | dtlb
  | itlb
deriving DecidableEq, Repr

/-- An instruction of the machine. Every constructor is one row of spec/opcode_table.json; `p` is its PRED
field, `rd` `rs` `rt` the register fields, `pd` the destination predicate. Don't-care bits are no fields (R145). -/
inductive Instr where
  /-- ADD Rd, Rs, rotated 10-bit constant (R200). -/
  | addShort (p : Pred) (rd : Reg) (rs : Reg) (imm : BitVec 10) (rot : BitVec 4)
  /-- ADD Rd, Rs, Rt shifted by a constant (R200). -/
  | addReg (p : Pred) (rd : Reg) (rs : Reg) (rt : Reg) (ty : ShiftType) (amt : BitVec 5)
  /-- ADD Rd, Rs, 32-bit constant of the next slot (R200). -/
  | addLong (p : Pred) (rd : Reg) (rs : Reg) (imm : Word)
  /-- AND Rd, Rs, rotated 10-bit constant (R201). -/
  | andShort (p : Pred) (rd : Reg) (rs : Reg) (imm : BitVec 10) (rot : BitVec 4)
  /-- AND Rd, Rs, Rt shifted by a constant (R201). -/
  | andReg (p : Pred) (rd : Reg) (rs : Reg) (rt : Reg) (ty : ShiftType) (amt : BitVec 5)
  /-- AND Rd, Rs, 32-bit constant of the next slot (R201). -/
  | andLong (p : Pred) (rd : Reg) (rs : Reg) (imm : Word)
  /-- NOR Rd, Rs, rotated 10-bit constant (R202). -/
  | norShort (p : Pred) (rd : Reg) (rs : Reg) (imm : BitVec 10) (rot : BitVec 4)
  /-- NOR Rd, Rs, Rt shifted by a constant (R202). -/
  | norReg (p : Pred) (rd : Reg) (rs : Reg) (rt : Reg) (ty : ShiftType) (amt : BitVec 5)
  /-- NOR Rd, Rs, 32-bit constant of the next slot (R202). -/
  | norLong (p : Pred) (rd : Reg) (rs : Reg) (imm : Word)
  /-- OR Rd, Rs, rotated 10-bit constant (R203). -/
  | orShort (p : Pred) (rd : Reg) (rs : Reg) (imm : BitVec 10) (rot : BitVec 4)
  /-- OR Rd, Rs, Rt shifted by a constant (R203). -/
  | orReg (p : Pred) (rd : Reg) (rs : Reg) (rt : Reg) (ty : ShiftType) (amt : BitVec 5)
  /-- OR Rd, Rs, 32-bit constant of the next slot (R203). -/
  | orLong (p : Pred) (rd : Reg) (rs : Reg) (imm : Word)
  /-- SUB Rd, Rs, rotated 10-bit constant (R204). -/
  | subShort (p : Pred) (rd : Reg) (rs : Reg) (imm : BitVec 10) (rot : BitVec 4)
  /-- SUB Rd, Rs, Rt shifted by a constant (R204). -/
  | subReg (p : Pred) (rd : Reg) (rs : Reg) (rt : Reg) (ty : ShiftType) (amt : BitVec 5)
  /-- SUB Rd, Rs, 32-bit constant of the next slot (R204). -/
  | subLong (p : Pred) (rd : Reg) (rs : Reg) (imm : Word)
  /-- RSB Rd, Rs, rotated 10-bit constant (R205). -/
  | rsbShort (p : Pred) (rd : Reg) (rs : Reg) (imm : BitVec 10) (rot : BitVec 4)
  /-- RSB Rd, Rs, Rt shifted by a constant (R205). -/
  | rsbReg (p : Pred) (rd : Reg) (rs : Reg) (rt : Reg) (ty : ShiftType) (amt : BitVec 5)
  /-- RSB Rd, Rs, 32-bit constant of the next slot (R205). -/
  | rsbLong (p : Pred) (rd : Reg) (rs : Reg) (imm : Word)
  /-- XOR Rd, Rs, rotated 10-bit constant (R206). -/
  | xorShort (p : Pred) (rd : Reg) (rs : Reg) (imm : BitVec 10) (rot : BitVec 4)
  /-- XOR Rd, Rs, Rt shifted by a constant (R206). -/
  | xorReg (p : Pred) (rd : Reg) (rs : Reg) (rt : Reg) (ty : ShiftType) (amt : BitVec 5)
  /-- XOR Rd, Rs, 32-bit constant of the next slot (R206). -/
  | xorLong (p : Pred) (rd : Reg) (rs : Reg) (imm : Word)
  /-- MOV Rd, rotated 15-bit constant (R207). -/
  | movShort (p : Pred) (rd : Reg) (imm : BitVec 15) (rot : BitVec 4)
  /-- MOV Rd, Rt shifted by a constant (R207). -/
  | movReg (p : Pred) (rd : Reg) (rt : Reg) (ty : ShiftType) (amt : BitVec 5)
  /-- MOV Rd, Rt shifted by the value of Rs (R207). -/
  | movRegsh (p : Pred) (rd : Reg) (rt : Reg) (ty : ShiftType) (rs : Reg)
  /-- MOV Rd, 32-bit constant of the next slot (R207). -/
  | movLong (p : Pred) (rd : Reg) (imm : Word)
  /-- MVN Rd, rotated 15-bit constant (R208). -/
  | mvnShort (p : Pred) (rd : Reg) (imm : BitVec 15) (rot : BitVec 4)
  /-- MVN Rd, Rt shifted by a constant (R208). -/
  | mvnReg (p : Pred) (rd : Reg) (rt : Reg) (ty : ShiftType) (amt : BitVec 5)
  /-- MVN Rd, Rt shifted by the value of Rs (R208). -/
  | mvnRegsh (p : Pred) (rd : Reg) (rt : Reg) (ty : ShiftType) (rs : Reg)
  /-- MVN Rd, 32-bit constant of the next slot (R208). -/
  | mvnLong (p : Pred) (rd : Reg) (imm : Word)
  /-- SXB Rd, rotated 15-bit constant (R210). -/
  | sxbShort (p : Pred) (rd : Reg) (imm : BitVec 15) (rot : BitVec 4)
  /-- SXB Rd, Rt shifted by a constant (R210). -/
  | sxbReg (p : Pred) (rd : Reg) (rt : Reg) (ty : ShiftType) (amt : BitVec 5)
  /-- SXB Rd, Rt shifted by the value of Rs (R210). -/
  | sxbRegsh (p : Pred) (rd : Reg) (rt : Reg) (ty : ShiftType) (rs : Reg)
  /-- SXB Rd, 32-bit constant of the next slot (R210). -/
  | sxbLong (p : Pred) (rd : Reg) (imm : Word)
  /-- SXH Rd, rotated 15-bit constant (R211). -/
  | sxhShort (p : Pred) (rd : Reg) (imm : BitVec 15) (rot : BitVec 4)
  /-- SXH Rd, Rt shifted by a constant (R211). -/
  | sxhReg (p : Pred) (rd : Reg) (rt : Reg) (ty : ShiftType) (amt : BitVec 5)
  /-- SXH Rd, Rt shifted by the value of Rs (R211). -/
  | sxhRegsh (p : Pred) (rd : Reg) (rt : Reg) (ty : ShiftType) (rs : Reg)
  /-- SXH Rd, 32-bit constant of the next slot (R211). -/
  | sxhLong (p : Pred) (rd : Reg) (imm : Word)
  /-- CMPLTU Pd, Rs, rotated 10-bit constant (R221). -/
  | cmpltuShort (p : Pred) (pd : PredReg) (rs : Reg) (imm : BitVec 10) (rot : BitVec 4)
  /-- CMPLTU Pd, Rs, Rt shifted by a constant (R221). -/
  | cmpltuReg (p : Pred) (pd : PredReg) (rs : Reg) (rt : Reg) (ty : ShiftType) (amt : BitVec 5)
  /-- CMPLTU Pd, Rs, 32-bit constant of the next slot (R221). -/
  | cmpltuLong (p : Pred) (pd : PredReg) (rs : Reg) (imm : Word)
  /-- CMPLEU Pd, Rs, rotated 10-bit constant (R222). -/
  | cmpleuShort (p : Pred) (pd : PredReg) (rs : Reg) (imm : BitVec 10) (rot : BitVec 4)
  /-- CMPLEU Pd, Rs, Rt shifted by a constant (R222). -/
  | cmpleuReg (p : Pred) (pd : PredReg) (rs : Reg) (rt : Reg) (ty : ShiftType) (amt : BitVec 5)
  /-- CMPLEU Pd, Rs, 32-bit constant of the next slot (R222). -/
  | cmpleuLong (p : Pred) (pd : PredReg) (rs : Reg) (imm : Word)
  /-- CMPEQ Pd, Rs, rotated 10-bit constant (R223). -/
  | cmpeqShort (p : Pred) (pd : PredReg) (rs : Reg) (imm : BitVec 10) (rot : BitVec 4)
  /-- CMPEQ Pd, Rs, Rt shifted by a constant (R223). -/
  | cmpeqReg (p : Pred) (pd : PredReg) (rs : Reg) (rt : Reg) (ty : ShiftType) (amt : BitVec 5)
  /-- CMPEQ Pd, Rs, 32-bit constant of the next slot (R223). -/
  | cmpeqLong (p : Pred) (pd : PredReg) (rs : Reg) (imm : Word)
  /-- CMPLTS Pd, Rs, rotated 10-bit constant (R224). -/
  | cmpltsShort (p : Pred) (pd : PredReg) (rs : Reg) (imm : BitVec 10) (rot : BitVec 4)
  /-- CMPLTS Pd, Rs, Rt shifted by a constant (R224). -/
  | cmpltsReg (p : Pred) (pd : PredReg) (rs : Reg) (rt : Reg) (ty : ShiftType) (amt : BitVec 5)
  /-- CMPLTS Pd, Rs, 32-bit constant of the next slot (R224). -/
  | cmpltsLong (p : Pred) (pd : PredReg) (rs : Reg) (imm : Word)
  /-- CMPLES Pd, Rs, rotated 10-bit constant (R225). -/
  | cmplesShort (p : Pred) (pd : PredReg) (rs : Reg) (imm : BitVec 10) (rot : BitVec 4)
  /-- CMPLES Pd, Rs, Rt shifted by a constant (R225). -/
  | cmplesReg (p : Pred) (pd : PredReg) (rs : Reg) (rt : Reg) (ty : ShiftType) (amt : BitVec 5)
  /-- CMPLES Pd, Rs, 32-bit constant of the next slot (R225). -/
  | cmplesLong (p : Pred) (pd : PredReg) (rs : Reg) (imm : Word)
  /-- CMPBS Pd, Rs, rotated 10-bit constant (R226). -/
  | cmpbsShort (p : Pred) (pd : PredReg) (rs : Reg) (imm : BitVec 10) (rot : BitVec 4)
  /-- CMPBS Pd, Rs, Rt shifted by a constant (R226). -/
  | cmpbsReg (p : Pred) (pd : PredReg) (rs : Reg) (rt : Reg) (ty : ShiftType) (amt : BitVec 5)
  /-- CMPBS Pd, Rs, 32-bit constant of the next slot (R226). -/
  | cmpbsLong (p : Pred) (pd : PredReg) (rs : Reg) (imm : Word)
  /-- CMPBC Pd, Rs, rotated 10-bit constant (R227). -/
  | cmpbcShort (p : Pred) (pd : PredReg) (rs : Reg) (imm : BitVec 10) (rot : BitVec 4)
  /-- CMPBC Pd, Rs, Rt shifted by a constant (R227). -/
  | cmpbcReg (p : Pred) (pd : PredReg) (rs : Reg) (rt : Reg) (ty : ShiftType) (amt : BitVec 5)
  /-- CMPBC Pd, Rs, 32-bit constant of the next slot (R227). -/
  | cmpbcLong (p : Pred) (pd : PredReg) (rs : Reg) (imm : Word)
  /-- LB Rd, (Rs + signed byte offset) (R241). -/
  | lb (p : Pred) (rd : Reg) (rs : Reg) (off : BitVec 12)
  /-- LH Rd, (Rs + signed byte offset) (R242). -/
  | lh (p : Pred) (rd : Reg) (rs : Reg) (off : BitVec 12)
  /-- LW Rd, (Rs + signed byte offset) (R243). -/
  | lw (p : Pred) (rd : Reg) (rs : Reg) (off : BitVec 12)
  /-- LL Rd, (Rs + signed byte offset) (R244). -/
  | ll (p : Pred) (rd : Reg) (rs : Reg) (off : BitVec 12)
  /-- SB Rt, (Rs + signed byte offset) (R245). -/
  | sb (p : Pred) (rt : Reg) (rs : Reg) (off : BitVec 12)
  /-- SH Rt, (Rs + signed byte offset) (R246). -/
  | sh (p : Pred) (rt : Reg) (rs : Reg) (off : BitVec 12)
  /-- SW Rt, (Rs + signed byte offset) (R247). -/
  | sw (p : Pred) (rt : Reg) (rs : Reg) (off : BitVec 12)
  /-- SC Rt, (Rs + signed byte offset) (R248). -/
  | sc (p : Pred) (rt : Reg) (rs : Reg) (off : BitVec 12)
  /-- B to the packet at a signed packet offset from the pc (R271). -/
  | bImm (p : Pred) (off : BitVec 25)
  /-- B to the packet at a signed packet offset from Rs (R271). -/
  | bReg (p : Pred) (rs : Reg) (off : BitVec 20)
  /-- BL to the packet at a signed packet offset from the pc (R272). -/
  | blImm (p : Pred) (off : BitVec 25)
  /-- BL to the packet at a signed packet offset from Rs (R272). -/
  | blReg (p : Pred) (rs : Reg) (off : BitVec 20)
  /-- BREAK: raise the BREAK exception (R301). -/
  | brk (p : Pred)
  /-- SYSCALL: raise the SYSCALL exception (R302). -/
  | syscall (p : Pred)
  /-- FENCE: no operation (R295). -/
  | fence (p : Pred)
  /-- ERET: return to the state EPC names (R305). -/
  | eret (p : Pred)
  /-- FLUSH: flush the cache line or TLB entry of the address in Rs (R296, R297). -/
  | flush (p : Pred) (ty : FlushType) (rs : Reg)
  /-- MFC: move coprocessor register n to Rd (R307). -/
  | mfc (p : Pred) (rd : Reg) (n : CopNum)
  /-- MTC: move Rs to coprocessor register n (R309). -/
  | mtc (p : Pred) (n : CopNum) (rs : Reg)
  /-- MFHI: move ovf to Rd (R285). -/
  | mfhi (p : Pred) (rd : Reg)
  /-- MTHI: move Rs to ovf (R286). -/
  | mthi (p : Pred) (rs : Reg)
  /-- MULT: unsigned product of Rs and Rt to Rd and ovf (R281). -/
  | mult (p : Pred) (rd : Reg) (rs : Reg) (rt : Reg)
  /-- MULTS: signed product of Rs and Rt to Rd and ovf (R282). -/
  | mults (p : Pred) (rd : Reg) (rs : Reg) (rt : Reg)
  /-- DIV: quotient of Rs and Rt to Rd, remainder to ovf (R283). -/
  | div (p : Pred) (rd : Reg) (rs : Reg) (rt : Reg)
deriving DecidableEq, Repr

/-- The seven two-operand ALU operations (30_encoding.md R131). -/
inductive Alu2Op where
  | addOp
  | andOp
  | norOp
  | orOp
  | subOp
  | rsbOp
  | xorOp
deriving DecidableEq, Repr

/-- The four one-operand ALU operations (30_encoding.md R131). -/
inductive Alu1Op where
  | movOp
  | mvnOp
  | sxbOp
  | sxhOp
deriving DecidableEq, Repr

/-- The seven compares (30_encoding.md R132). -/
inductive CmpOp where
  | cmpltuOp
  | cmpleuOp
  | cmpeqOp
  | cmpltsOp
  | cmplesOp
  | cmpbsOp
  | cmpbcOp
deriving DecidableEq, Repr

/-- The four loads (30_encoding.md R133). -/
inductive LoadOp where
  | lbOp
  | lhOp
  | lwOp
  | llOp
deriving DecidableEq, Repr

/-- The four stores (30_encoding.md R133). -/
inductive StoreOp where
  | sbOp
  | shOp
  | swOp
  | scOp
deriving DecidableEq, Repr

/-- The second operand of a two-operand ALU instruction or compare, by format (40_packet_and_operands.md R176). -/
inductive Op2 where
  | short (imm : BitVec 10) (rot : BitVec 4)
  | reg (rt : Reg) (ty : ShiftType) (amt : BitVec 5)
  | long (imm : Word)
deriving DecidableEq, Repr

/-- The operand of a one-operand ALU instruction, by format (40_packet_and_operands.md R176, R177). -/
inductive Op1 where
  | short (imm : BitVec 15) (rot : BitVec 4)
  | reg (rt : Reg) (ty : ShiftType) (amt : BitVec 5)
  | regsh (rt : Reg) (ty : ShiftType) (rs : Reg)
  | long (imm : Word)
deriving DecidableEq, Repr

/-- The target operand of B and BL (44_branch.md R270). -/
inductive Target where
  | imm (off : BitVec 25)
  | reg (rs : Reg) (off : BitVec 20)
deriving DecidableEq, Repr

/-- The instructions of the Control format (30_encoding.md R134). -/
inductive CtlOp where
  | brkOp
  | syscallOp
  | fenceOp
  | eretOp
  | flushOp (ty : FlushType) (rs : Reg)
  | mfcOp (rd : Reg) (n : CopNum)
  | mtcOp (n : CopNum) (rs : Reg)
  | mfhiOp (rd : Reg)
  | mthiOp (rs : Reg)
  | multOp (rd rs rt : Reg)
  | multsOp (rd rs rt : Reg)
  | divOp (rd rs rt : Reg)
deriving DecidableEq, Repr

/-- The same instructions grouped by family: operation, predicate, operands. `Instr.form` and `Form.instr`
(Decode.lean) are inverse to each other, so that a fact about a family is said once. -/
inductive Form where
  | alu2 (o : Alu2Op) (p : Pred) (rd rs : Reg) (b : Op2)
  | alu1 (o : Alu1Op) (p : Pred) (rd : Reg) (b : Op1)
  | cmp (o : CmpOp) (p : Pred) (pd : PredReg) (rs : Reg) (b : Op2)
  | load (o : LoadOp) (p : Pred) (rd rs : Reg) (off : BitVec 12)
  | store (o : StoreOp) (p : Pred) (rt rs : Reg) (off : BitVec 12)
  | branch (link : Bool) (p : Pred) (t : Target)
  | ctl (c : CtlOp) (p : Pred)
deriving DecidableEq, Repr

end Sys2Proof
end

