-- ==== Sys2Proof/Decode.lean ====
section
/-! DEFINITION. The decoder (30_encoding.md R110 to R145), total on any bits and rejecting by name, and the encoder
written from the same tables; which class an instruction has and which destinations it names (R162, R168). -/
namespace Sys2Proof

/-- The family form of an instruction. -/
def Instr.form : Instr → Form
  | .addShort p rd rs imm rot => .alu2 .addOp p rd rs (.short imm rot)
  | .addReg p rd rs rt ty amt => .alu2 .addOp p rd rs (.reg rt ty amt)
  | .addLong p rd rs imm => .alu2 .addOp p rd rs (.long imm)
  | .andShort p rd rs imm rot => .alu2 .andOp p rd rs (.short imm rot)
  | .andReg p rd rs rt ty amt => .alu2 .andOp p rd rs (.reg rt ty amt)
  | .andLong p rd rs imm => .alu2 .andOp p rd rs (.long imm)
  | .norShort p rd rs imm rot => .alu2 .norOp p rd rs (.short imm rot)
  | .norReg p rd rs rt ty amt => .alu2 .norOp p rd rs (.reg rt ty amt)
  | .norLong p rd rs imm => .alu2 .norOp p rd rs (.long imm)
  | .orShort p rd rs imm rot => .alu2 .orOp p rd rs (.short imm rot)
  | .orReg p rd rs rt ty amt => .alu2 .orOp p rd rs (.reg rt ty amt)
  | .orLong p rd rs imm => .alu2 .orOp p rd rs (.long imm)
  | .subShort p rd rs imm rot => .alu2 .subOp p rd rs (.short imm rot)
  | .subReg p rd rs rt ty amt => .alu2 .subOp p rd rs (.reg rt ty amt)
  | .subLong p rd rs imm => .alu2 .subOp p rd rs (.long imm)
  | .rsbShort p rd rs imm rot => .alu2 .rsbOp p rd rs (.short imm rot)
  | .rsbReg p rd rs rt ty amt => .alu2 .rsbOp p rd rs (.reg rt ty amt)
  | .rsbLong p rd rs imm => .alu2 .rsbOp p rd rs (.long imm)
  | .xorShort p rd rs imm rot => .alu2 .xorOp p rd rs (.short imm rot)
  | .xorReg p rd rs rt ty amt => .alu2 .xorOp p rd rs (.reg rt ty amt)
  | .xorLong p rd rs imm => .alu2 .xorOp p rd rs (.long imm)
  | .movShort p rd imm rot => .alu1 .movOp p rd (.short imm rot)
  | .movReg p rd rt ty amt => .alu1 .movOp p rd (.reg rt ty amt)
  | .movRegsh p rd rt ty rs => .alu1 .movOp p rd (.regsh rt ty rs)
  | .movLong p rd imm => .alu1 .movOp p rd (.long imm)
  | .mvnShort p rd imm rot => .alu1 .mvnOp p rd (.short imm rot)
  | .mvnReg p rd rt ty amt => .alu1 .mvnOp p rd (.reg rt ty amt)
  | .mvnRegsh p rd rt ty rs => .alu1 .mvnOp p rd (.regsh rt ty rs)
  | .mvnLong p rd imm => .alu1 .mvnOp p rd (.long imm)
  | .sxbShort p rd imm rot => .alu1 .sxbOp p rd (.short imm rot)
  | .sxbReg p rd rt ty amt => .alu1 .sxbOp p rd (.reg rt ty amt)
  | .sxbRegsh p rd rt ty rs => .alu1 .sxbOp p rd (.regsh rt ty rs)
  | .sxbLong p rd imm => .alu1 .sxbOp p rd (.long imm)
  | .sxhShort p rd imm rot => .alu1 .sxhOp p rd (.short imm rot)
  | .sxhReg p rd rt ty amt => .alu1 .sxhOp p rd (.reg rt ty amt)
  | .sxhRegsh p rd rt ty rs => .alu1 .sxhOp p rd (.regsh rt ty rs)
  | .sxhLong p rd imm => .alu1 .sxhOp p rd (.long imm)
  | .cmpltuShort p pd rs imm rot => .cmp .cmpltuOp p pd rs (.short imm rot)
  | .cmpltuReg p pd rs rt ty amt => .cmp .cmpltuOp p pd rs (.reg rt ty amt)
  | .cmpltuLong p pd rs imm => .cmp .cmpltuOp p pd rs (.long imm)
  | .cmpleuShort p pd rs imm rot => .cmp .cmpleuOp p pd rs (.short imm rot)
  | .cmpleuReg p pd rs rt ty amt => .cmp .cmpleuOp p pd rs (.reg rt ty amt)
  | .cmpleuLong p pd rs imm => .cmp .cmpleuOp p pd rs (.long imm)
  | .cmpeqShort p pd rs imm rot => .cmp .cmpeqOp p pd rs (.short imm rot)
  | .cmpeqReg p pd rs rt ty amt => .cmp .cmpeqOp p pd rs (.reg rt ty amt)
  | .cmpeqLong p pd rs imm => .cmp .cmpeqOp p pd rs (.long imm)
  | .cmpltsShort p pd rs imm rot => .cmp .cmpltsOp p pd rs (.short imm rot)
  | .cmpltsReg p pd rs rt ty amt => .cmp .cmpltsOp p pd rs (.reg rt ty amt)
  | .cmpltsLong p pd rs imm => .cmp .cmpltsOp p pd rs (.long imm)
  | .cmplesShort p pd rs imm rot => .cmp .cmplesOp p pd rs (.short imm rot)
  | .cmplesReg p pd rs rt ty amt => .cmp .cmplesOp p pd rs (.reg rt ty amt)
  | .cmplesLong p pd rs imm => .cmp .cmplesOp p pd rs (.long imm)
  | .cmpbsShort p pd rs imm rot => .cmp .cmpbsOp p pd rs (.short imm rot)
  | .cmpbsReg p pd rs rt ty amt => .cmp .cmpbsOp p pd rs (.reg rt ty amt)
  | .cmpbsLong p pd rs imm => .cmp .cmpbsOp p pd rs (.long imm)
  | .cmpbcShort p pd rs imm rot => .cmp .cmpbcOp p pd rs (.short imm rot)
  | .cmpbcReg p pd rs rt ty amt => .cmp .cmpbcOp p pd rs (.reg rt ty amt)
  | .cmpbcLong p pd rs imm => .cmp .cmpbcOp p pd rs (.long imm)
  | .lb p rd rs off => .load .lbOp p rd rs off
  | .lh p rd rs off => .load .lhOp p rd rs off
  | .lw p rd rs off => .load .lwOp p rd rs off
  | .ll p rd rs off => .load .llOp p rd rs off
  | .sb p rt rs off => .store .sbOp p rt rs off
  | .sh p rt rs off => .store .shOp p rt rs off
  | .sw p rt rs off => .store .swOp p rt rs off
  | .sc p rt rs off => .store .scOp p rt rs off
  | .bImm p off => .branch false p (.imm off)
  | .bReg p rs off => .branch false p (.reg rs off)
  | .blImm p off => .branch true p (.imm off)
  | .blReg p rs off => .branch true p (.reg rs off)
  | .brk p => .ctl .brkOp p
  | .syscall p => .ctl .syscallOp p
  | .fence p => .ctl .fenceOp p
  | .eret p => .ctl .eretOp p
  | .flush p ty rs => .ctl (.flushOp ty rs) p
  | .mfc p rd n => .ctl (.mfcOp rd n) p
  | .mtc p n rs => .ctl (.mtcOp n rs) p
  | .mfhi p rd => .ctl (.mfhiOp rd) p
  | .mthi p rs => .ctl (.mthiOp rs) p
  | .mult p rd rs rt => .ctl (.multOp rd rs rt) p
  | .mults p rd rs rt => .ctl (.multsOp rd rs rt) p
  | .div p rd rs rt => .ctl (.divOp rd rs rt) p

/-- The instruction of a family form. -/
def Form.instr : Form → Instr
  | .alu2 .addOp p rd rs (.short imm rot) => .addShort p rd rs imm rot
  | .alu2 .addOp p rd rs (.reg rt ty amt) => .addReg p rd rs rt ty amt
  | .alu2 .addOp p rd rs (.long imm) => .addLong p rd rs imm
  | .alu2 .andOp p rd rs (.short imm rot) => .andShort p rd rs imm rot
  | .alu2 .andOp p rd rs (.reg rt ty amt) => .andReg p rd rs rt ty amt
  | .alu2 .andOp p rd rs (.long imm) => .andLong p rd rs imm
  | .alu2 .norOp p rd rs (.short imm rot) => .norShort p rd rs imm rot
  | .alu2 .norOp p rd rs (.reg rt ty amt) => .norReg p rd rs rt ty amt
  | .alu2 .norOp p rd rs (.long imm) => .norLong p rd rs imm
  | .alu2 .orOp p rd rs (.short imm rot) => .orShort p rd rs imm rot
  | .alu2 .orOp p rd rs (.reg rt ty amt) => .orReg p rd rs rt ty amt
  | .alu2 .orOp p rd rs (.long imm) => .orLong p rd rs imm
  | .alu2 .subOp p rd rs (.short imm rot) => .subShort p rd rs imm rot
  | .alu2 .subOp p rd rs (.reg rt ty amt) => .subReg p rd rs rt ty amt
  | .alu2 .subOp p rd rs (.long imm) => .subLong p rd rs imm
  | .alu2 .rsbOp p rd rs (.short imm rot) => .rsbShort p rd rs imm rot
  | .alu2 .rsbOp p rd rs (.reg rt ty amt) => .rsbReg p rd rs rt ty amt
  | .alu2 .rsbOp p rd rs (.long imm) => .rsbLong p rd rs imm
  | .alu2 .xorOp p rd rs (.short imm rot) => .xorShort p rd rs imm rot
  | .alu2 .xorOp p rd rs (.reg rt ty amt) => .xorReg p rd rs rt ty amt
  | .alu2 .xorOp p rd rs (.long imm) => .xorLong p rd rs imm
  | .alu1 .movOp p rd (.short imm rot) => .movShort p rd imm rot
  | .alu1 .movOp p rd (.reg rt ty amt) => .movReg p rd rt ty amt
  | .alu1 .movOp p rd (.regsh rt ty rs) => .movRegsh p rd rt ty rs
  | .alu1 .movOp p rd (.long imm) => .movLong p rd imm
  | .alu1 .mvnOp p rd (.short imm rot) => .mvnShort p rd imm rot
  | .alu1 .mvnOp p rd (.reg rt ty amt) => .mvnReg p rd rt ty amt
  | .alu1 .mvnOp p rd (.regsh rt ty rs) => .mvnRegsh p rd rt ty rs
  | .alu1 .mvnOp p rd (.long imm) => .mvnLong p rd imm
  | .alu1 .sxbOp p rd (.short imm rot) => .sxbShort p rd imm rot
  | .alu1 .sxbOp p rd (.reg rt ty amt) => .sxbReg p rd rt ty amt
  | .alu1 .sxbOp p rd (.regsh rt ty rs) => .sxbRegsh p rd rt ty rs
  | .alu1 .sxbOp p rd (.long imm) => .sxbLong p rd imm
  | .alu1 .sxhOp p rd (.short imm rot) => .sxhShort p rd imm rot
  | .alu1 .sxhOp p rd (.reg rt ty amt) => .sxhReg p rd rt ty amt
  | .alu1 .sxhOp p rd (.regsh rt ty rs) => .sxhRegsh p rd rt ty rs
  | .alu1 .sxhOp p rd (.long imm) => .sxhLong p rd imm
  | .cmp .cmpltuOp p pd rs (.short imm rot) => .cmpltuShort p pd rs imm rot
  | .cmp .cmpltuOp p pd rs (.reg rt ty amt) => .cmpltuReg p pd rs rt ty amt
  | .cmp .cmpltuOp p pd rs (.long imm) => .cmpltuLong p pd rs imm
  | .cmp .cmpleuOp p pd rs (.short imm rot) => .cmpleuShort p pd rs imm rot
  | .cmp .cmpleuOp p pd rs (.reg rt ty amt) => .cmpleuReg p pd rs rt ty amt
  | .cmp .cmpleuOp p pd rs (.long imm) => .cmpleuLong p pd rs imm
  | .cmp .cmpeqOp p pd rs (.short imm rot) => .cmpeqShort p pd rs imm rot
  | .cmp .cmpeqOp p pd rs (.reg rt ty amt) => .cmpeqReg p pd rs rt ty amt
  | .cmp .cmpeqOp p pd rs (.long imm) => .cmpeqLong p pd rs imm
  | .cmp .cmpltsOp p pd rs (.short imm rot) => .cmpltsShort p pd rs imm rot
  | .cmp .cmpltsOp p pd rs (.reg rt ty amt) => .cmpltsReg p pd rs rt ty amt
  | .cmp .cmpltsOp p pd rs (.long imm) => .cmpltsLong p pd rs imm
  | .cmp .cmplesOp p pd rs (.short imm rot) => .cmplesShort p pd rs imm rot
  | .cmp .cmplesOp p pd rs (.reg rt ty amt) => .cmplesReg p pd rs rt ty amt
  | .cmp .cmplesOp p pd rs (.long imm) => .cmplesLong p pd rs imm
  | .cmp .cmpbsOp p pd rs (.short imm rot) => .cmpbsShort p pd rs imm rot
  | .cmp .cmpbsOp p pd rs (.reg rt ty amt) => .cmpbsReg p pd rs rt ty amt
  | .cmp .cmpbsOp p pd rs (.long imm) => .cmpbsLong p pd rs imm
  | .cmp .cmpbcOp p pd rs (.short imm rot) => .cmpbcShort p pd rs imm rot
  | .cmp .cmpbcOp p pd rs (.reg rt ty amt) => .cmpbcReg p pd rs rt ty amt
  | .cmp .cmpbcOp p pd rs (.long imm) => .cmpbcLong p pd rs imm
  | .load .lbOp p rd rs off => .lb p rd rs off
  | .load .lhOp p rd rs off => .lh p rd rs off
  | .load .lwOp p rd rs off => .lw p rd rs off
  | .load .llOp p rd rs off => .ll p rd rs off
  | .store .sbOp p rt rs off => .sb p rt rs off
  | .store .shOp p rt rs off => .sh p rt rs off
  | .store .swOp p rt rs off => .sw p rt rs off
  | .store .scOp p rt rs off => .sc p rt rs off
  | .branch false p (.imm off) => .bImm p off
  | .branch false p (.reg rs off) => .bReg p rs off
  | .branch true p (.imm off) => .blImm p off
  | .branch true p (.reg rs off) => .blReg p rs off
  | .ctl .brkOp p => .brk p
  | .ctl .syscallOp p => .syscall p
  | .ctl .fenceOp p => .fence p
  | .ctl .eretOp p => .eret p
  | .ctl (.flushOp ty rs) p => .flush p ty rs
  | .ctl (.mfcOp rd n) p => .mfc p rd n
  | .ctl (.mtcOp n rs) p => .mtc p n rs
  | .ctl (.mfhiOp rd) p => .mfhi p rd
  | .ctl (.mthiOp rs) p => .mthi p rs
  | .ctl (.multOp rd rs rt) p => .mult p rd rs rt
  | .ctl (.multsOp rd rs rt) p => .mults p rd rs rt
  | .ctl (.divOp rd rs rt) p => .div p rd rs rt

/-- The slice of `n` bits of a word from bit `lo` upward (00_scope.md R8). -/
def field (w : Word) (lo n : Nat) : BitVec n := w.extractLsb' lo n

/-- The register number in the five bits from bit `lo` upward. -/
def regAt (w : Word) (lo : Nat) : Reg := (field w lo 5).toFin

/-- The PRED field, bits 31:29: register in 31:30, inversion in 29 (30_encoding.md R111). -/
def predOf (w : Word) : Pred := ⟨(field w 30 2).toFin, field w 29 1 == 1#1⟩

/-- The three bits of a PRED field. -/
def Pred.bits (p : Pred) : BitVec 3 := (BitVec.ofFin p.reg : BitVec 2) ++ (bif p.inv then 1#1 else 0#1)

/-- SHF (30_encoding.md R130). -/
def shiftTypeOf (b : BitVec 2) : ShiftType :=
  if b = 0b00#2 then .lsl else if b = 0b01#2 then .lsr else if b = 0b10#2 then .asr else .ror

/-- The two bits of SHF. -/
def ShiftType.bits : ShiftType → BitVec 2
  | .lsl => 0b00#2
  | .lsr => 0b01#2
  | .asr => 0b10#2
  | .ror => 0b11#2

/-- FLUSH TYPE (30_encoding.md R136). -/
def flushTypeOf (b : BitVec 2) : FlushType :=
  if b = 0b00#2 then .data else if b = 0b01#2 then .inst else if b = 0b10#2 then .dtlb else .itlb

/-- The two bits of FLUSH TYPE. -/
def FlushType.bits : FlushType → BitVec 2
  | .data => 0b00#2
  | .inst => 0b01#2
  | .dtlb => 0b10#2
  | .itlb => 0b11#2

/-- What the four bits of an ALU opcode name. -/
inductive AluOpcode where
  | two (o : Alu2Op)
  | one (o : Alu1Op)
  | compare
  | reserved
deriving DecidableEq, Repr

/-- ALU opcode, bits 13:10 (30_encoding.md R131). -/
def aluOpcodeOf (b : BitVec 4) : AluOpcode :=
  match b.toNat with
  | 0 => .two .addOp
  | 1 => .two .andOp
  | 2 => .two .norOp
  | 3 => .two .orOp
  | 4 => .two .subOp
  | 5 => .two .rsbOp
  | 6 => .two .xorOp
  | 7 => .compare
  | 8 => .one .movOp
  | 9 => .one .mvnOp
  | 10 => .one .sxbOp
  | 11 => .one .sxhOp
  | _ => .reserved

/-- The opcode bits of a two-operand ALU operation. -/
def Alu2Op.bits : Alu2Op → BitVec 4
  | .addOp => 0b0000#4
  | .andOp => 0b0001#4
  | .norOp => 0b0010#4
  | .orOp => 0b0011#4
  | .subOp => 0b0100#4
  | .rsbOp => 0b0101#4
  | .xorOp => 0b0110#4

/-- The opcode bits of a one-operand ALU operation. -/
def Alu1Op.bits : Alu1Op → BitVec 4
  | .movOp => 0b1000#4
  | .mvnOp => 0b1001#4
  | .sxbOp => 0b1010#4
  | .sxhOp => 0b1011#4

/-- Compare type, bits 9:7; 011 names no compare (30_encoding.md R132, R142). -/
def cmpOf (b : BitVec 3) : Option CmpOp :=
  match b.toNat with
  | 0 => some .cmpltuOp
  | 1 => some .cmpleuOp
  | 2 => some .cmpeqOp
  | 4 => some .cmpltsOp
  | 5 => some .cmplesOp
  | 6 => some .cmpbsOp
  | 7 => some .cmpbcOp
  | _ => none

/-- The compare type bits. -/
def CmpOp.bits : CmpOp → BitVec 3
  | .cmpltuOp => 0b000#3
  | .cmpleuOp => 0b001#3
  | .cmpeqOp => 0b010#3
  | .cmpltsOp => 0b100#3
  | .cmplesOp => 0b101#3
  | .cmpbsOp => 0b110#3
  | .cmpbcOp => 0b111#3

/-- A load or a store, or neither. -/
inductive LsuOpcode where
  | load (o : LoadOp)
  | store (o : StoreOp)
deriving DecidableEq, Repr

/-- LSU opcode, bits 12:10; all eight values are assigned (30_encoding.md R133). -/
def lsuOf (b : BitVec 3) : LsuOpcode :=
  match b.toNat with
  | 0 => .load .lbOp
  | 1 => .load .lhOp
  | 2 => .load .lwOp
  | 3 => .load .llOp
  | 4 => .store .sbOp
  | 5 => .store .shOp
  | 6 => .store .swOp
  | _ => .store .scOp

/-- The LSU opcode of a load. -/
def LoadOp.bits : LoadOp → BitVec 3
  | .lbOp => 0b000#3
  | .lhOp => 0b001#3
  | .lwOp => 0b010#3
  | .llOp => 0b011#3

/-- The LSU opcode of a store. -/
def StoreOp.bits : StoreOp → BitVec 3
  | .sbOp => 0b100#3
  | .shOp => 0b101#3
  | .swOp => 0b110#3
  | .scOp => 0b111#3

/-- The seven control codes no instruction is printed with: 0000 and 1010 to 1111 (30_encoding.md R135). -/
def openControlCode (k : Nat) : BitVec 4 := if k = 0 then 0b0000#4 else BitVec.ofNat 4 (9 + k)

/-- ENC_MFHI, an open parameter (30_encoding.md R135; log 9). -/
def encMfhi : BitVec 4 := openControlCode Config.mfhiSelect.val

/-- ENC_MTHI, an open parameter different from ENC_MFHI (30_encoding.md R135; log 9). -/
def encMthi : BitVec 4 :=
  openControlCode (if Config.mthiSelect.val < Config.mfhiSelect.val then Config.mthiSelect.val else Config.mthiSelect.val + 1)

/-- Why a word is no instruction; each is an undefined encoding of 30_encoding.md R141 to R143, but for `truncated`. -/
inductive Reject where
  /-- ALU opcode 1100 to 1111 (R141). -/
  | reservedAluOpcode
  /-- Compare type 011 (R142). -/
  | unassignedCompareType
  /-- A Regsh word with a two-operand or compare opcode (R142). -/
  | regshOpcode
  /-- A Control word whose code is assigned to no instruction (R143). -/
  | unassignedControl
  /-- A word that matches no format (R143). -/
  | noFormat
  /-- Fewer bytes than the instruction has: no condition of the hardware, which fetches whole packets. -/
  | truncated
deriving DecidableEq, Repr

/-- The instructions of the Control format by bits 23:20 (30_encoding.md R134). -/
def decodeControl (w : Word) : Except Reject CtlOp :=
  match (field w 20 4).toNat with
  | 1 => .ok .brkOp
  | 2 => .ok .syscallOp
  | 3 => .ok .fenceOp
  | 4 => .ok .eretOp
  | 5 => .ok (.flushOp (flushTypeOf (field w 10 2)) (regAt w 0))
  | 6 => .ok (.mfcOp (regAt w 5) (regAt w 0))
  | 7 => .ok (.mtcOp (regAt w 5) (regAt w 0))
  | 8 => if field w 19 1 = 1#1 then .ok (.multsOp (regAt w 5) (regAt w 0) (regAt w 14)) else .ok (.multOp (regAt w 5) (regAt w 0) (regAt w 14))
  | 9 => .ok (.divOp (regAt w 5) (regAt w 0) (regAt w 14))
  | _ =>
    if field w 20 4 = encMfhi then .ok (.mfhiOp (regAt w 5))
    else if field w 20 4 = encMthi then .ok (.mthiOp (regAt w 0))
    else .error .unassignedControl

/-- The ALU and compare instructions of the Short, Register and Long formats, which share bits 13:0
(30_encoding.md R113 to R117, R123); `b2` and `b1` are the operand as a two-operand and a one-operand
instruction has it. -/
def decodeAlu (w : Word) (b2 : Op2) (b1 : Op1) : Except Reject Form :=
  match aluOpcodeOf (field w 10 4) with
  | .two o => .ok (.alu2 o (predOf w) (regAt w 5) (regAt w 0) b2)
  | .one o => .ok (.alu1 o (predOf w) (regAt w 5) b1)
  | .compare =>
    match cmpOf (field w 7 3) with
    | some c => .ok (.cmp c (predOf w) (field w 5 2).toFin (regAt w 0) b2)
    | none => .error .unassignedCompareType
  | .reserved => .error .reservedAluOpcode

/-- ALU 1-Op Regsh (30_encoding.md R124, R137). -/
def decodeRegsh (w : Word) : Except Reject Form :=
  match aluOpcodeOf (field w 10 4) with
  | .one o => .ok (.alu1 o (predOf w) (regAt w 5) (.regsh (regAt w 14) (shiftTypeOf (field w 19 2)) (regAt w 0)))
  | .reserved => .error .reservedAluOpcode
  | .two _ => .error .regshOpcode
  | .compare => .error .regshOpcode

/-- Load and Store (30_encoding.md R118, R119, R129). -/
def decodeLsu (w : Word) : Form :=
  match lsuOf (field w 10 3) with
  | .load o => .load o (predOf w) (regAt w 5) (regAt w 0) (field w 13 12)
  | .store o => .store o (predOf w) (regAt w 14) (regAt w 0) (field w 19 6 ++ field w 13 1 ++ field w 5 5)

/-- Branch immediate and Branch register (30_encoding.md R120, R121). -/
def decodeBranch (w : Word) : Form :=
  .branch (field w 25 1 == 1#1) (predOf w)
    (if field w 26 1 = 1#1 then .reg (regAt w 0) (field w 5 20) else .imm (field w 0 25))

/-- The decision tree of 30_encoding.md R112; `next` is the word of the next slot, used by a long form only. -/
def decodeForm (w next : Word) : Except Reject Form :=
  if field w 28 1 = 0#1 then
    decodeAlu w (.short (field w 18 10) (field w 14 4)) (.short (field w 0 5 ++ field w 18 10) (field w 14 4))
  else if field w 26 3 = 0b101#3 then
    decodeAlu w (.reg (regAt w 14) (shiftTypeOf (field w 19 2)) (field w 21 5))
      (.reg (regAt w 14) (shiftTypeOf (field w 19 2)) (field w 21 5))
  else if field w 25 4 = 0b1001#4 then .ok (decodeLsu w)
  else if field w 27 2 = 0b11#2 then .ok (decodeBranch w)
  else if field w 24 5 = 0b10001#5 then (decodeControl w).map fun c => .ctl c (predOf w)
  else if field w 21 8 = 0b10000001#8 then decodeRegsh w
  else if field w 14 15 = 0b100000000000000#15 then decodeAlu w (.long next) (.long next)
  else .error .noFormat

/-- The instruction a word is, with the word of the next slot. -/
def decodeWord (w next : Word) : Except Reject Instr := (decodeForm w next).map Form.instr

/-- A word is in a long form: bits 28:14 alone say so (40_packet_and_operands.md R164). -/
def isLong (w : Word) : Bool := field w 14 15 == 0b100000000000000#15

/-- Four bytes, the first at the lowest address, as a little-endian word (20_memory.md R60). -/
def wordOfBytes (b0 b1 b2 b3 : Byte) : Word := b3 ++ b2 ++ b1 ++ b0

/-- The decoder on bytes as memory holds them: the instruction and the bytes after it. -/
def decodeBytes : List Byte → Except Reject (Instr × List Byte)
  | b0 :: b1 :: b2 :: b3 :: rest =>
    let w := wordOfBytes b0 b1 b2 b3
    if isLong w then
      match rest with
      | c0 :: c1 :: c2 :: c3 :: rest' => (decodeWord w (wordOfBytes c0 c1 c2 c3)).map fun i => (i, rest')
      | _ => .error .truncated
    else (decodeWord w 0#32).map fun i => (i, rest)
  | _ => .error .truncated

/-- The four bytes of a word in the order memory holds them (20_memory.md R60). -/
def bytesOfWord (w : Word) : List Byte := [field w 0 8, field w 8 8, field w 16 8, field w 24 8]

/-- The instruction the decoder reads from an instruction whose bits are `w`, the first word least significant and
every bit above `nbits` zero. -/
def decodeTableWord (nbits w : Nat) : Option Instr :=
  let v := w % 2 ^ nbits
  match decodeBytes (bytesOfWord (BitVec.ofNat 32 v) ++ bytesOfWord (BitVec.ofNat 32 (v / 2 ^ 32))) with
  | .ok (i, _) => some i
  | .error _ => none

/-! ## The encoder -/

/-- A register number as five bits. -/
def regBits (r : Fin 32) : BitVec 5 := BitVec.ofFin r

/-- A predicate register number as two bits. -/
def predRegBits (n : PredReg) : BitVec 2 := BitVec.ofFin n

/-- The words of an ALU or compare instruction whose bits 13:5 are `mid` and whose bits 4:0 are `low`, by the format
of its two-operand second operand. -/
def Op2.words (p : Pred) (mid : BitVec 9) (rs : Reg) : Op2 → List Word
  | .short imm rot => [p.bits ++ 0#1 ++ imm ++ rot ++ mid ++ regBits rs]
  | .reg rt ty amt => [p.bits ++ 0b101#3 ++ amt ++ ty.bits ++ regBits rt ++ mid ++ regBits rs]
  | .long imm => [p.bits ++ 0b100000000000000#15 ++ mid ++ regBits rs, imm]

/-- The words of a one-operand ALU instruction whose bits 13:5 are `mid`; bits 4:0 are 0 where no field is there. -/
def Op1.words (p : Pred) (mid : BitVec 9) : Op1 → List Word
  | .short imm rot => [p.bits ++ 0#1 ++ imm.extractLsb' 0 10 ++ rot ++ mid ++ imm.extractLsb' 10 5]
  | .reg rt ty amt => [p.bits ++ 0b101#3 ++ amt ++ ty.bits ++ regBits rt ++ mid ++ 0#5]
  | .regsh rt ty rs => [p.bits ++ 0b10000001#8 ++ ty.bits ++ regBits rt ++ mid ++ regBits rs]
  | .long imm => [p.bits ++ 0b100000000000000#15 ++ mid ++ 0#5, imm]

/-- The word of a branch (30_encoding.md R120, R121). -/
def Target.word (p : Pred) (link : Bool) : Target → Word
  | .imm off => p.bits ++ 0b11#2 ++ 0#1 ++ (bif link then 1#1 else 0#1) ++ off
  | .reg rs off => p.bits ++ 0b11#2 ++ 1#1 ++ (bif link then 1#1 else 0#1) ++ off ++ regBits rs

/-- Bits 23:0 of a Control instruction, don't-care bits 0 (30_encoding.md R122, R134). -/
def CtlOp.bits : CtlOp → BitVec 24
  | .brkOp => 0b0001#4 ++ 0#20
  | .syscallOp => 0b0010#4 ++ 0#20
  | .fenceOp => 0b0011#4 ++ 0#20
  | .eretOp => 0b0100#4 ++ 0#20
  | .flushOp ty rs => 0b0101#4 ++ 0#8 ++ ty.bits ++ 0#5 ++ regBits rs
  | .mfcOp rd n => 0b0110#4 ++ 0#10 ++ regBits rd ++ regBits n
  | .mtcOp n rs => 0b0111#4 ++ 0#10 ++ regBits n ++ regBits rs
  | .mfhiOp rd => encMfhi ++ 0#10 ++ regBits rd ++ 0#5
  | .mthiOp rs => encMthi ++ 0#15 ++ regBits rs
  | .multOp rd rs rt => 0b1000#4 ++ 0#1 ++ regBits rt ++ 0#4 ++ regBits rd ++ regBits rs
  | .multsOp rd rs rt => 0b1000#4 ++ 1#1 ++ regBits rt ++ 0#4 ++ regBits rd ++ regBits rs
  | .divOp rd rs rt => 0b1001#4 ++ 0#1 ++ regBits rt ++ 0#4 ++ regBits rd ++ regBits rs

/-- The words of an instruction in its family form: one, or two for a long form (30_encoding.md R138). -/
def Form.words : Form → List Word
  | .alu2 o p rd rs b => b.words p (o.bits ++ regBits rd) rs
  | .alu1 o p rd b => b.words p (o.bits ++ regBits rd)
  | .cmp o p pd rs b => b.words p (0b0111#4 ++ o.bits ++ predRegBits pd) rs
  | .load o p rd rs off => [p.bits ++ 0b1001#4 ++ off ++ o.bits ++ regBits rd ++ regBits rs]
  | .store o p rt rs off =>
    [p.bits ++ 0b1001#4 ++ off.extractLsb' 6 6 ++ regBits rt ++ off.extractLsb' 5 1 ++ o.bits ++ off.extractLsb' 0 5 ++ regBits rs]
  | .branch link p t => [t.word p link]
  | .ctl c p => [p.bits ++ 0b10001#5 ++ c.bits]

/-- The words of an instruction, the first at the lowest address. -/
def encode (i : Instr) : List Word := i.form.words

/-! ## What is known of an instruction without executing it -/

/-- The three classes of 40_packet_and_operands.md R162. -/
inductive InstrClass where
  | control
  | memory
  | alu
deriving DecidableEq, Repr

/-- The class of an instruction is a property of its format (40_packet_and_operands.md R162). -/
def Form.cls : Form → InstrClass
  | .alu2 .. => .alu
  | .alu1 .. => .alu
  | .cmp .. => .alu
  | .load .. => .memory
  | .store .. => .memory
  | .branch .. => .control
  | .ctl .. => .control

/-- The PRED field. -/
def Form.pred : Form → Pred
  | .alu2 _ p _ _ _ => p
  | .alu1 _ p _ _ => p
  | .cmp _ p _ _ _ => p
  | .load _ p _ _ _ => p
  | .store _ p _ _ _ => p
  | .branch _ p _ => p
  | .ctl _ p => p

/-- The instruction is in a long form, whose constant is the next slot (30_encoding.md R123). -/
def Form.long : Form → Bool
  | .alu2 _ _ _ _ (.long _) => true
  | .alu1 _ _ _ (.long _) => true
  | .cmp _ _ _ _ (.long _) => true
  | _ => false

/-- The general register a Control instruction writes (40_packet_and_operands.md R168). -/
def CtlOp.gprDest : CtlOp → Option Reg
  | .mfcOp rd _ => some rd
  | .mfhiOp rd => some rd
  | .multOp rd _ _ => some rd
  | .multsOp rd _ _ => some rd
  | .divOp rd _ _ => some rd
  | _ => none

/-- The general register an instruction names as a destination: Rd, or R31 of BL (40_packet_and_operands.md R168). -/
def Form.gprDest : Form → Option Reg
  | .alu2 _ _ rd _ _ => some rd
  | .alu1 _ _ rd _ => some rd
  | .load _ _ rd _ _ => some rd
  | .branch true _ _ => some 31
  | .ctl c _ => c.gprDest
  | _ => none

/-- The predicate register an instruction names as a destination: Pd, or P0 of SC (40_packet_and_operands.md R168). -/
def Form.predDest : Form → Option PredReg
  | .cmp _ _ pd _ _ => some pd
  | .store .scOp _ _ _ _ => some 0
  | _ => none

/-- ERET, MFC and MTC: the instructions of kernel mode (60_exceptions.md R350). -/
def Form.kernelOnly : Form → Bool
  | .ctl .eretOp _ => true
  | .ctl (.mfcOp ..) _ => true
  | .ctl (.mtcOp ..) _ => true
  | _ => false

def Instr.cls (i : Instr) : InstrClass := i.form.cls
def Instr.pred (i : Instr) : Pred := i.form.pred
def Instr.long (i : Instr) : Bool := i.form.long
def Instr.gprDest (i : Instr) : Option Reg := i.form.gprDest
def Instr.predDest (i : Instr) : Option PredReg := i.form.predDest
def Instr.kernelOnly (i : Instr) : Bool := i.form.kernelOnly

/-- An instruction may stand in slot `k` (40_packet_and_operands.md R162, R167): Control in slot 0, Memory in slots 0
and 1, ALU in any slot but a long form not in slot 3. -/
def Instr.allowedIn (i : Instr) (k : Nat) : Bool :=
  match i.cls with
  | .control => k == 0
  | .memory => k ≤ 1
  | .alu => !(i.long && k == 3)

end Sys2Proof
end

