-- ==== Sys2Proof/Machine/State.lean ====
section
/-! DEFINITION. The machine's state (10_state.md), the reasons a step can stop, and the state after reset. -/
namespace Sys2Proof.Machine

/-- The system mode flag (10_state.md R30). -/
inductive Mode where
  | kernel
  | user
deriving DecidableEq, Repr

/-- The four interrupt codes, lowest first (60_exceptions.md R331). -/
inductive Irq where
  | timer
  | usb
  | framebuffer
  | sdCard
deriving DecidableEq, Repr

/-- The machine stops without a next state and without an architectural exception. -/
inductive Fault where
  /-- Raised by a fetch, a load or a page walk that reads a byte of memory, at or just above address `a`, that nothing
  has written (70_reset_and_hazards.md R375, 93_implementation_defined.md U4). Safe: the hardware reads some byte. -/
  | unwrittenMemory (a : Nat)
deriving DecidableEq, Repr

/-- The spec gives the packet no successor state. -/
inductive Refusal where
  /-- Raised by an arm of `exec` whose instruction has no meaning yet. Safe. -/
  | notModelled (mnemonic : String)
  /-- Raised by a packet two lanes of which name one destination and at most one has a true predicate, or name P3
  (40_packet_and_operands.md R168, 93_implementation_defined.md U1). Safe. -/
  | undecidedDestination
  /-- Raised by a packet with an LL and an SC or ERET, both with true predicates (40_packet_and_operands.md R168, U2). Safe. -/
  | linkConflict
  /-- Raised by MFC and MTC in kernel mode with an unassigned coprocessor number (10_state.md R47, U3). Safe. -/
  | unassignedCoprocessor (n : CopNum)
  /-- Raised by a packet whose two memory accesses overlap, one of them a performed store (20_memory.md R68, U5). Safe. -/
  | overlappingAccesses
deriving DecidableEq, Repr

/-- One TLB entry: the result of a page-table walk (20_memory.md R85). -/
structure TlbEntry where
  vpn : BitVec 20
  ppn : BitVec 17
  g : Bool
  k : Bool
  w : Bool
deriving DecidableEq, Repr

/-- What stands at a physical address that exists (20_memory.md R73, R75). -/
inductive PhysKind where
  | ram
  | device
deriving DecidableEq, Repr

/-- A range of bytes of the physical address space: the first address, how many bytes, and what stands there
(20_memory.md R74; log 6). -/
structure PhysRegion where
  first : Nat
  size : Nat
  kind : PhysKind
deriving DecidableEq, Repr

/-- PhysMap: the ranges that exist; the first one that covers an address says what stands there (00_scope.md R7; log 6). -/
abbrev PhysMap := List PhysRegion

/-- The default PhysMap: RAM at 0x00000000 to 0x1FFFFFFF, nothing else (20_memory.md R73, decision D3; log 6). -/
def PhysMap.default : PhysMap := [{ first := 0, size := 0x20000000, kind := .ram }]

/-- What IrqSource reports at the packet boundaries after those that State lists (60_exceptions.md R334; log 7). -/
inductive IrqTail where
  /-- Nothing is ever pending, the default (decision D19). -/
  | never
  /-- Any set of codes at each boundary. -/
  | source
deriving DecidableEq, Repr

/-- Memory contents: (physical address, byte) pairs, addresses strictly rising; an unlisted byte is unwritten
(70_reset_and_hazards.md R375; log 4). -/
abbrev Memory := List Host.Cell

/-- A byte that a level of the hierarchy may still hold of an address though a newer one exists; `none` is the
unwritten byte (20_memory.md R98). -/
abbrev OldByte := Nat × Option Byte

/-- The state of the machine between two packets. -/
structure State where
  /-- R0 to R31 (10_state.md R20). -/
  regs : Vector Word 32
  /-- P0 (10_state.md R26). -/
  p0 : Bool
  /-- P1 (10_state.md R26). -/
  p1 : Bool
  /-- P2 (10_state.md R26). -/
  p2 : Bool
  /-- The program counter: the address of the packet to run next (10_state.md R23). -/
  pc : Word
  /-- The multiply/division overflow register (10_state.md R28). -/
  ovf : Word
  /-- The link bit (10_state.md R29). -/
  link : Bool
  /-- The system mode flag (10_state.md R30). -/
  mode : Mode
  /-- PFLAGS bit 0, interrupts enabled (10_state.md R35). -/
  ie : Bool
  /-- PFLAGS bit 1, paging enabled (10_state.md R35). -/
  pe : Bool
  /-- Page table base register (10_state.md R39). -/
  ptb : Word
  /-- Exception handler address (10_state.md R40). -/
  eha : Word
  /-- Error PC (10_state.md R41). -/
  epc : Word
  /-- Error cause of lane 0 and of interrupts (10_state.md R43). -/
  ec0 : Word
  /-- Error cause of lane 1 (10_state.md R43). -/
  ec1 : Word
  /-- Error cause of lane 2 (10_state.md R43). -/
  ec2 : Word
  /-- Error cause of lane 3 (10_state.md R43). -/
  ec3 : Word
  /-- Error address of lane 0 (10_state.md R45). -/
  ea0 : Word
  /-- Error address of lane 1 (10_state.md R45). -/
  ea1 : Word
  /-- Scratchpad 0 (10_state.md R46). -/
  sp0 : Word
  /-- Scratchpad 1 (10_state.md R46). -/
  sp1 : Word
  /-- Scratchpad 2 (10_state.md R46). -/
  sp2 : Word
  /-- Scratchpad 3 (10_state.md R46). -/
  sp3 : Word
  /-- The entries the instruction TLB may hold (20_memory.md R88; log 17). -/
  itlb : List TlbEntry
  /-- The entries the data TLB may hold (20_memory.md R88; log 17). -/
  dtlb : List TlbEntry
  /-- M1, the core's data view of memory (20_memory.md R96). -/
  mem : Memory
  /-- What M2, the L2 view, may hold other than M1 (20_memory.md R96, R98; log 15). -/
  l2old : List OldByte
  /-- What the L1 instruction cache may hold other than M1 and M2 (20_memory.md R97; log 16). -/
  il1old : List OldByte
  /-- PhysMap, an argument of the machine that no step changes (00_scope.md R7, 20_memory.md R74; log 6). -/
  physMap : PhysMap
  /-- IrqSource: the codes pending at this packet boundary, at the next one, and so on (60_exceptions.md R333, R334; log 7). -/
  irqs : List (List Irq)
  /-- IrqSource after the boundaries that `irqs` lists (60_exceptions.md R334; log 7). -/
  irqsThen : IrqTail
  /-- The model's own: how many steps have been taken; free values are drawn at it (log 18). -/
  tick : Nat
deriving DecidableEq, Repr

/-- The machine right after reset (10_state.md R55). The registers without a stated value are 0 (log 2), RESET_PC is
0 (log 3), no byte of memory is written (log 4), PhysMap is its default (log 6), no interrupt is ever pending (log 7). -/
def State.reset : State where
  regs := Vector.replicate 32 0#32
  p0 := false
  p1 := false
  p2 := false
  pc := 0#32
  ovf := 0#32
  link := false
  mode := .kernel
  ie := false
  pe := false
  ptb := 0#32
  eha := 0#32
  epc := 0#32
  ec0 := 0#32
  ec1 := 0#32
  ec2 := 0#32
  ec3 := 0#32
  ea0 := 0#32
  ea1 := 0#32
  sp0 := 0#32
  sp1 := 0#32
  sp2 := 0#32
  sp3 := 0#32
  itlb := []
  dtlb := []
  mem := []
  l2old := []
  il1old := []
  physMap := PhysMap.default
  irqs := []
  irqsThen := .never
  tick := 0

end Sys2Proof.Machine
end

