-- ==== Sys2Proof/Machine/Operands.lean ====
section
/-! DEFINITION. Register access, the second operand (40_packet_and_operands.md R175 to R178), the results of the ALU
operations, multiplication and division, and the addresses of memory and branch instructions. -/
namespace Sys2Proof.Machine

/-- Read a general register; none is hard-wired (10_state.md R21). -/
def State.reg (s : State) (r : Reg) : Word := s.regs.get r

/-- Write a general register. -/
def State.setReg (s : State) (r : Reg) (v : Word) : State := { s with regs := s.regs.set r v }

/-- Read a predicate register; P3 reads 1 (10_state.md R26). -/
def State.predReg (s : State) (n : PredReg) : Bool :=
  match n with
  | 0 => s.p0
  | 1 => s.p1
  | 2 => s.p2
  | 3 => true

/-- Write a predicate register; a write to P3 is discarded (10_state.md R26). -/
def State.setPredReg (s : State) (n : PredReg) (b : Bool) : State :=
  match n with
  | 0 => { s with p0 := b }
  | 1 => { s with p1 := b }
  | 2 => { s with p2 := b }
  | 3 => s

/-- The predicate of an instruction holds (40_packet_and_operands.md R165). -/
def State.holds (s : State) (p : Pred) : Bool := s.predReg p.reg != p.inv

/-- Rotate right by 0 to 31 places (00_scope.md R9). -/
def ror32 (v : Word) (n : Nat) : Word := (v >>> n) ||| (v <<< (32 - n))

/-- Shift(v, type, n) for any amount (40_packet_and_operands.md R175). -/
def shift (v : Word) (ty : ShiftType) (n : Nat) : Word :=
  match ty with
  | .lsl => if n < 32 then v <<< n else 0#32
  | .lsr => if n < 32 then v >>> n else 0#32
  | .asr => if n < 32 then v.sshiftRight n else if v.msb then 0xFFFFFFFF#32 else 0#32
  | .ror => ror32 v (n % 32)

/-- A rotated 10-bit constant (30_encoding.md R125). -/
def shortImm10 (imm : BitVec 10) (rot : BitVec 4) : Word := ror32 (imm.setWidth 32) (2 * rot.toNat)

/-- A rotated 15-bit constant (30_encoding.md R126). -/
def shortImm15 (imm : BitVec 15) (rot : BitVec 4) : Word := ror32 (imm.setWidth 32) (2 * rot.toNat)

/-- Op2 of a two-operand instruction or compare (40_packet_and_operands.md R176). -/
def Op2.value (s : State) : Op2 → Word
  | .short imm rot => shortImm10 imm rot
  | .reg rt ty amt => shift (s.reg rt) ty amt.toNat
  | .long imm => imm

/-- Op2 of a one-operand instruction (40_packet_and_operands.md R176, R177). -/
def Op1.value (s : State) : Op1 → Word
  | .short imm rot => shortImm15 imm rot
  | .reg rt ty amt => shift (s.reg rt) ty amt.toNat
  | .regsh rt ty rs => shift (s.reg rt) ty (s.reg rs).toNat
  | .long imm => imm

/-- The result of a two-operand ALU operation on Rs and Op2 (41_alu.md R200 to R206). -/
def Alu2Op.result (o : Alu2Op) (a b : Word) : Word :=
  match o with
  | .addOp => a + b
  | .andOp => a &&& b
  | .norOp => ~~~(a ||| b)
  | .orOp => a ||| b
  | .subOp => a - b
  | .rsbOp => b - a
  | .xorOp => a ^^^ b

/-- The result of a one-operand ALU operation on Op2 (41_alu.md R207 to R211). -/
def Alu1Op.result (o : Alu1Op) (b : Word) : Word :=
  match o with
  | .movOp => b
  | .mvnOp => ~~~b
  | .sxbOp => (b.setWidth 8).signExtend 32
  | .sxhOp => (b.setWidth 16).signExtend 32

/-- The 64-bit unsigned product (45_control.md R281). -/
def productU (a b : Word) : BitVec 64 := BitVec.ofNat 64 (a.toNat * b.toNat)

/-- The 64-bit signed product (45_control.md R282). -/
def productS (a b : Word) : BitVec 64 := BitVec.ofInt 64 (a.toInt * b.toInt)

/-- `x` if both readings of an open parameter agree on it, else the reading the parameter `c` selects. -/
def openChoice {α : Type} [DecidableEq α] (c : Bool) (x y : α) : α := if x = y then x else bif c then x else y

/-- Quotient and remainder of a division truncated toward zero (45_control.md R283, DIV_SIGNED = true). -/
def divideS (a b : Word) : Word × Word :=
  let q := a.toInt.tdiv b.toInt
  (BitVec.ofInt 32 q, BitVec.ofInt 32 (a.toInt - q * b.toInt))

/-- Quotient and remainder of the unsigned division (45_control.md R283, DIV_SIGNED = false). -/
def divideU (a b : Word) : Word × Word :=
  (BitVec.ofNat 32 (a.toNat / b.toNat), BitVec.ofNat 32 (a.toNat % b.toNat))

/-- Quotient and remainder of DIV, its signedness open (45_control.md R283; log 11). -/
def divide (a b : Word) : Word × Word := openChoice Config.divSigned (divideS a b) (divideU a b)

/-- The address of a load or store before alignment (43_load_store.md R240). -/
def dataAddr (s : State) (rs : Reg) (off : BitVec 12) : Word := s.reg rs + off.signExtend 32

/-- The aligned address of an access of `n` = 1, 2 or 4 bytes: the low bits are dropped (20_memory.md R64). -/
def alignDown (addr : Word) (n : Nat) : Word := addr &&& ~~~(BitVec.ofNat 32 (n - 1))

/-- The target of a branch (44_branch.md R270). -/
def Target.addr (s : State) : Target → Word
  | .imm off => s.pc + (off ++ 0#4 : BitVec 29).signExtend 32
  | .reg rs off => (s.reg rs + (off ++ 0#4 : BitVec 24).signExtend 32) &&& 0xFFFFFFF0#32

end Sys2Proof.Machine
end

