-- ==== Sys2Proof/Machine/Flags.lean ====
section
/-! DEFINITION. The machine has no flags but the predicate registers (10_state.md R26); this file computes the bit
that each compare writes (42_compare.md R221 to R227). -/
namespace Sys2Proof.Machine

/-- CMPBC with both of the manual's readings, the parameter open (42_compare.md R227; log 10). -/
def bitsClear (a b : Word) : Bool := openChoice Config.cmpbcAllClear ((a &&& b) == 0#32) ((~~~a &&& b) != 0#32)

/-- The bit a compare of Rs and Op2 writes into Pd. -/
def CmpOp.result (o : CmpOp) (a b : Word) : Bool :=
  match o with
  | .cmpltuOp => decide (a.toNat < b.toNat)
  | .cmpleuOp => decide (a.toNat ≤ b.toNat)
  | .cmpeqOp => a == b
  | .cmpltsOp => decide (a.toInt < b.toInt)
  | .cmplesOp => decide (a.toInt ≤ b.toInt)
  | .cmpbsOp => (a &&& b) != 0#32
  | .cmpbcOp => bitsClear a b

end Sys2Proof.Machine
end

