-- ==== Sys2Proof/Machine/Memory.lean ====
section
/-! DEFINITION. Memory: the canonical list of bytes, little-endian accesses (20_memory.md R61), and the two views of
memory with the older bytes an unflushed fetch or page walk may see (20_memory.md R96 to R101). -/
namespace Sys2Proof.Machine

/-- The byte at an address, `none` if nothing has written it. -/
def Memory.read : Memory → Nat → Option Byte
  | [], _ => none
  | (k, b) :: m, a => if a = k then some b else Memory.read m a

/-- Write one byte, keeping the addresses strictly rising. -/
def Memory.write : Memory → Nat → Byte → Memory
  | [], a, b => [(a, b)]
  | (k, c) :: m, a, b =>
    if a < k then (a, b) :: (k, c) :: m
    else if a = k then (a, b) :: m
    else (k, c) :: Memory.write m a b

/-- The canonical form: addresses strictly rising. -/
def Memory.wf : Memory → Bool
  | [] => true
  | [_] => true
  | x :: y :: m => decide (x.1 < y.1) && Memory.wf (y :: m)

/-- `n` bytes from address `a` upward, each as `read` has it, as a little-endian value (20_memory.md R61). -/
def readLE (read : Nat → Option Byte) : Nat → Nat → Option Word
  | _, 0 => some 0#32
  | a, n + 1 =>
    match read a, readLE read (a + 1) n with
    | some b, some v => some ((v <<< 8) ||| b.setWidth 32)
    | _, _ => none

/-- A range covers an address. -/
def PhysRegion.covers (r : PhysRegion) (a : Nat) : Bool := decide (r.first ≤ a) && decide (a < r.first + r.size)

/-- What stands at a physical address, if it exists (20_memory.md R74, R75; log 6). -/
def State.physKind (s : State) (a : Nat) : Option PhysKind := (s.physMap.find? (·.covers a)).map (·.kind)

/-- PhysMap.valid: a physical address that exists (20_memory.md R74). -/
def State.physValid (s : State) (a : Nat) : Bool := (s.physKind a).isSome

/-- A byte of RAM stands at a physical address (20_memory.md R73). -/
def State.isRam (s : State) (a : Nat) : Bool := s.physKind a == some .ram

/-- CACHE_LINE_BYTES, a power of two not smaller than 4 (20_memory.md R103; log 12). -/
def lineBytes : Nat := 4 * 2 ^ Config.lineLog

/-- Two addresses are in one cache line (20_memory.md R103). -/
def sameLine (a b : Nat) : Bool := a / lineBytes == b / lineBytes

/-- The value `c` if every value of `cs` is `c`, else the one an open choice `n` selects among them. -/
def pick {α : Type} [DecidableEq α] (n : Nat) (c : α) (cs : List α) : α :=
  if cs.all (fun x => x == c) then c else (c :: cs).getD (n % (cs.length + 1)) c

/-- Add an older byte to a set of them. -/
def remember (l : List OldByte) (o : OldByte) : List OldByte := if l.contains o then l else o :: l

/-- The older bytes of one address in a set of them. -/
def oldAt (l : List OldByte) (a : Nat) : List (Option Byte) := (l.filter (fun o => o.1 == a)).map (·.2)

/-- A byte as the data view shows it to the access `id`: that of memory where RAM stands, elsewhere what a device or the
empty bus answers (20_memory.md R75, R96; log 6). -/
def State.dataByte (s : State) (id a : Nat) : Option Byte :=
  if s.isRam a then Memory.read s.mem a else some (Config.deviceByte s.tick id a)

/-- A byte as the L2 view shows it to the access `id` (20_memory.md R96, R98). -/
def State.l2Byte (s : State) (id a : Nat) : Option Byte :=
  pick (Config.viewChoice s.tick id a) (s.dataByte id a) (oldAt s.l2old a)

/-- A byte as instruction fetch sees it (20_memory.md R97, R98). -/
def State.fetchByte (s : State) (a : Nat) : Option Byte :=
  pick (Config.viewChoice s.tick 0 a) (s.dataByte 0 a) (oldAt s.l2old a ++ oldAt s.il1old a)

/-- Four bytes, the lowest address first, as a little-endian word (20_memory.md R60, R61). -/
def leWord : Option Byte → Option Byte → Option Byte → Option Byte → Option Word
  | some b0, some b1, some b2, some b3 => some (b3 ++ b2 ++ b1 ++ b0)
  | _, _, _, _ => none

/-- WalkRead: a word of the L2 view, for the page walker (20_memory.md R85, R96). -/
def State.l2Word (s : State) (id a : Nat) : Option Word :=
  leWord (s.l2Byte id a) (s.l2Byte id (a + 1)) (s.l2Byte id (a + 2)) (s.l2Byte id (a + 3))

/-- A word of the instruction view (20_memory.md R97). -/
def State.fetchWord (s : State) (a : Nat) : Option Word :=
  leWord (s.fetchByte a) (s.fetchByte (a + 1)) (s.fetchByte (a + 2)) (s.fetchByte (a + 3))

/-- Store one byte in M1; M2 may keep what M1 held before (20_memory.md R96, R98). Where no RAM stands, memory does not
change (20_memory.md R75; log 6). -/
def State.storeByte (s : State) (a : Nat) (b : Byte) : State :=
  { s with
    mem := if s.isRam a then Memory.write s.mem a b else s.mem
    l2old := if s.isRam a then remember s.l2old (a, Memory.read s.mem a) else s.l2old }

/-- MemWrite: store the low `n` bytes of a value, little-endian (20_memory.md R61). -/
def State.storeBytes (s : State) : Nat → Nat → Word → State
  | _, 0, _ => s
  | a, n + 1, v => (s.storeByte a (v.setWidth 8)).storeBytes (a + 1) n (v >>> 8)

/-- FLUSH DATA: M2 takes M1's bytes of the line; the instruction cache may keep the older ones (20_memory.md R97, R99). -/
def State.flushData (s : State) (a : Nat) : State :=
  { s with
    l2old := s.l2old.filter (fun o => !sameLine o.1 a)
    il1old := (s.l2old.filter (fun o => sameLine o.1 a)).foldl remember s.il1old }

/-- FLUSH INST: the instruction cache drops the line, so that the next fetch of it reads M2 (20_memory.md R101). -/
def State.flushInst (s : State) (a : Nat) : State :=
  { s with il1old := s.il1old.filter (fun o => !sameLine o.1 a) }

end Sys2Proof.Machine
end

