-- ==== Sys2Proof/Machine/Translate.lean ====
section
/-! DEFINITION. Address translation and protection: the page-table walk, the TLBs as the sets of entries the hardware
may hold, and Translate (20_memory.md R80 to R93). -/
namespace Sys2Proof.Machine

/-- The kinds of access Translate tells apart (20_memory.md R80). -/
inductive AccessKind where
  | fetch
  | read
  | write
deriving DecidableEq, Repr

/-- What a page-table walk finds; `unwritten` when it reads a byte nothing has written. -/
inductive WalkResult where
  | entry (e : TlbEntry)
  | notPresent
  | unwritten (a : Nat)
deriving DecidableEq, Repr

/-- The physical address of entry `index` of the page directory or table whose base is in bits 28:12 of `base`
(20_memory.md R82, R85). -/
def tableEntryAddr (base : Word) (index : BitVec 10) : Nat := (base.extractLsb' 12 17).toNat * 4096 + 4 * index.toNat

/-- Walk(va) for the access port `port` (0 fetch, 1 lane 0, 2 lane 1), reading the L2 view (20_memory.md R84, R85). -/
def State.walk (s : State) (port : Nat) (va : Word) : WalkResult :=
  let pdAddr := tableEntryAddr s.ptb (va.extractLsb' 22 10)
  if s.physValid pdAddr then
    match s.l2Word (3 * port + 1) pdAddr with
    | none => .unwritten pdAddr
    | some d =>
      if d.getLsbD 0 then
        let ptAddr := tableEntryAddr d (va.extractLsb' 12 10)
        if s.physValid ptAddr then
          match s.l2Word (3 * port + 2) ptAddr with
          | none => .unwritten ptAddr
          | some t =>
            if t.getLsbD 0 then
              .entry { vpn := va.extractLsb' 12 20, ppn := t.extractLsb' 12 17, g := d.getLsbD 3 || t.getLsbD 3,
                       k := d.getLsbD 2 || t.getLsbD 2, w := d.getLsbD 1 && t.getLsbD 1 }
            else .notPresent
        else .notPresent
      else .notPresent
  else .notPresent

/-- The TLB of an access kind (20_memory.md R88). -/
def State.tlb (s : State) : AccessKind → List TlbEntry
  | .fetch => s.itlb
  | .read => s.dtlb
  | .write => s.dtlb

/-- The translation an access uses: of the entries the TLB may hold for the page and of a walk, any
(20_memory.md R88, R89; log 17). -/
def State.lookup (s : State) (port : Nat) (kind : AccessKind) (va : Word) : WalkResult :=
  let found := s.walk port va
  match (s.tlb kind).filter (fun e => e.vpn == va.extractLsb' 12 20) with
  | [] => found
  | e :: es => pick (Config.tlbChoice s.tick port) (.entry e) (es.map .entry ++ [found])

/-- What Translate answers; the entries in `fills` are those the TLB takes up (20_memory.md R80, R88). -/
inductive TransResult where
  | ok (pa : Nat) (fills : List TlbEntry)
  | pageFault (fills : List TlbEntry)
  | invalidPhysical (fills : List TlbEntry)
  | unwritten (a : Nat)
deriving DecidableEq, Repr

/-- The page permits the access in the mode (20_memory.md R86). -/
def pagePermits (e : TlbEntry) (kind : AccessKind) (mode : Mode) : Bool :=
  !(e.k && mode == .user) && !(kind == .write && !e.w)

/-- Translate(va, kind, mode) in the mode of the state (20_memory.md R80, R93). -/
def State.translate (s : State) (port : Nat) (kind : AccessKind) (va : Word) : TransResult :=
  if s.pe then
    match s.lookup port kind va with
    | .unwritten a => .unwritten a
    | .notPresent => .pageFault []
    | .entry e =>
      if pagePermits e kind s.mode then
        let pa := (e.ppn ++ va.extractLsb' 0 12 : BitVec 29).toNat
        if s.physValid pa then .ok pa [e] else .invalidPhysical [e]
      else .pageFault [e]
  else if s.physValid va.toNat then .ok va.toNat [] else .invalidPhysical []

/-- A TLB takes up entries it does not hold yet (20_memory.md R88). -/
def fillTlb (l : List TlbEntry) (es : List TlbEntry) : List TlbEntry :=
  es.foldl (fun l e => if l.contains e then l else e :: l) l

/-- A TLB drops every entry that is not global (20_memory.md R91). -/
def dropNonGlobal (l : List TlbEntry) : List TlbEntry := l.filter (fun e => e.g)

/-- A TLB drops the entries of one page (20_memory.md R92). -/
def dropPage (l : List TlbEntry) (va : Word) : List TlbEntry := l.filter (fun e => e.vpn != va.extractLsb' 12 20)

end Sys2Proof.Machine
end

