-- ==== Sys2Proof/Machine/Ops.lean ====
section
/-! DEFINITION. What a lane of a packet yields (queued writes or an exception, 00_scope.md R10), the commit of a packet
(40_packet_and_operands.md R166), taking an exception (60_exceptions.md R340 to R342), and the end of a packet. -/
namespace Sys2Proof.Machine

/-! ## Coprocessor registers -/

/-- The fourteen coprocessor registers (10_state.md R31). -/
inductive Cop where
  | pflags | ptb | eha | epc | ec0 | ec1 | ec2 | ec3 | ea0 | ea1 | sp0 | sp1 | sp2 | sp3
deriving DecidableEq, Repr

/-- The register of a coprocessor number; the other numbers are unassigned (10_state.md R31, R47). -/
def copOfNum (n : CopNum) : Option Cop :=
  match n.val with
  | 0 => some .pflags
  | 1 => some .ptb
  | 2 => some .eha
  | 3 => some .epc
  | 4 => some .ec0
  | 5 => some .ec1
  | 6 => some .ec2
  | 7 => some .ec3
  | 8 => some .ea0
  | 9 => some .ea1
  | 16 => some .sp0
  | 17 => some .sp1
  | 18 => some .sp2
  | 19 => some .sp3
  | _ => none

/-- PFLAGS as a word: bit 0 IE, bit 1 PE, the others read 0 (10_state.md R35, R38). -/
def State.pflags (s : State) : Word := 0#30 ++ (bif s.pe then 1#1 else 0#1) ++ (bif s.ie then 1#1 else 0#1)

/-- Read a coprocessor register (46_system.md R307). -/
def State.readCop (s : State) : Cop → Word
  | .pflags => s.pflags
  | .ptb => s.ptb
  | .eha => s.eha
  | .epc => s.epc
  | .ec0 => s.ec0
  | .ec1 => s.ec1
  | .ec2 => s.ec2
  | .ec3 => s.ec3
  | .ea0 => s.ea0
  | .ea1 => s.ea1
  | .sp0 => s.sp0
  | .sp1 => s.sp1
  | .sp2 => s.sp2
  | .sp3 => s.sp3

/-- Write a coprocessor register, with the side effect the register has (46_system.md R309). -/
def State.writeCop (s : State) (c : Cop) (v : Word) : State :=
  match c with
  | .pflags => { s with ie := v.getLsbD 0, pe := v.getLsbD 1 }
  | .ptb => { s with ptb := v, itlb := dropNonGlobal s.itlb, dtlb := dropNonGlobal s.dtlb }
  | .eha => { s with eha := v }
  | .epc => { s with epc := v }
  | .ec0 => { s with ec0 := v }
  | .ec1 => { s with ec1 := v }
  | .ec2 => { s with ec2 := v }
  | .ec3 => { s with ec3 := v }
  | .ea0 => { s with ea0 := v }
  | .ea1 => { s with ea1 := v }
  | .sp0 => { s with sp0 := v }
  | .sp1 => { s with sp1 := v }
  | .sp2 => { s with sp2 := v }
  | .sp3 => { s with sp3 := v }

/-! ## EPC and error codes -/

/-- EPC_M_BIT (10_state.md R42; log 8). -/
def epcMBit : Nat := Config.epcMSelect.val

/-- EPC_IF_BIT: one of the three low bits that are not EPC_M_BIT (10_state.md R42; log 8). -/
def epcIfBit : Nat := (Config.epcMSelect.val + 1 + Config.epcIfSelect.val) % 4

/-- The value trap entry writes into EPC (10_state.md R42, 60_exceptions.md R340). -/
def State.epcImage (s : State) : Word :=
  (s.pc &&& 0xFFFFFFF0#32) ||| (if s.mode = .kernel then 1#32 <<< epcMBit else 0#32)
    ||| (bif s.ie then 1#32 <<< epcIfBit else 0#32)

/-- The exceptions of Table 1.1 (60_exceptions.md R321); No Error is the absence of one. -/
inductive ExcCode where
  | pageFaultFetch
  | illegalInstruction
  | duplicateDestination
  | pageFaultData
  | invalidPhysical
  | divideByZero
  | interrupt
  | syscall
  | brk
deriving DecidableEq, Repr

/-- EXNTYPE (60_exceptions.md R321). -/
def ExcCode.bits : ExcCode → BitVec 5
  | .pageFaultFetch => 0b00001#5
  | .illegalInstruction => 0b00010#5
  | .duplicateDestination => 0b00011#5
  | .pageFaultData => 0b00100#5
  | .invalidPhysical => 0b00101#5
  | .divideByZero => 0b00110#5
  | .interrupt => 0b00111#5
  | .syscall => 0b01000#5
  | .brk => 0b01001#5

/-- INT (60_exceptions.md R331). -/
def Irq.bits : Irq → BitVec 2
  | .timer => 0b00#2
  | .usb => 0b01#2
  | .framebuffer => 0b10#2
  | .sdCard => 0b11#2

/-- The exception a lane raised: its code, and the virtual address of a data access (60_exceptions.md R321, R342). -/
structure Exc where
  code : ExcCode
  ea : Option Word
deriving DecidableEq, Repr

/-- EXNTYPE of a lane: the code it raised, or 00000 No Error (60_exceptions.md R341). -/
def excBits : Option Exc → BitVec 5
  | some x => x.code.bits
  | none => 0b00000#5

/-- ErrorCode(code, int): INT in bits 7:6, EXNTYPE in bits 5:1, the other bits open (60_exceptions.md R341; log 14). -/
def errorCode (tick lane : Nat) (x : Option Exc) (int : BitVec 2) : Word :=
  (Config.errorCauseBits tick lane).extractLsb' 1 24 ++ int ++ excBits x ++ (Config.errorCauseBits tick lane).extractLsb' 0 1

/-- The error address register of a lane keeps its value unless the lane raised with an address (60_exceptions.md R342). -/
def newEa (old : Word) : Option Exc → Word
  | some ⟨_, some a⟩ => a
  | _ => old

/-- TrapEntry: taking an exception or interrupt, the same for every cause (60_exceptions.md R340). -/
def trapEntry (x0 x1 x2 x3 : Option Exc) (int : BitVec 2) (s : State) : State :=
  { s with
    epc := s.epcImage
    ec0 := errorCode s.tick 0 x0 int
    ec1 := errorCode s.tick 1 x1 0b00#2
    ec2 := errorCode s.tick 2 x2 0b00#2
    ec3 := errorCode s.tick 3 x3 0b00#2
    ea0 := newEa s.ea0 x0
    ea1 := newEa s.ea1 x1
    mode := .kernel
    ie := false
    link := false
    pc := s.eha &&& 0xFFFFFFF0#32
    tick := s.tick + 1 }

/-! ## What a lane yields -/

/-- A queued write (00_scope.md R10). -/
inductive Write where
  | gpr (r : Reg) (v : Word)
  | pred (n : PredReg) (b : Bool)
  | ovf (v : Word)
  | link (b : Bool)
  | cop (c : Cop) (v : Word)
  | mode (m : Mode)
  | ie (b : Bool)
  | pc (v : Word)
  | store (pa n : Nat) (v : Word)
  | flushData (pa : Nat)
  | flushInst (pa : Nat)
  | flushDtlb (va : Word)
  | flushItlb (va : Word)
deriving DecidableEq, Repr

/-- The bytes a memory instruction accesses, for the overlap rule (20_memory.md R68). -/
structure Access where
  pa : Nat
  len : Nat
  store : Bool
deriving DecidableEq, Repr

/-- What a lane yields: queued writes, the access it makes and the entries the data TLB takes up; or an exception; or
no successor state. -/
inductive LaneOut where
  | done (ws : List Write) (access : Option Access) (fills : List TlbEntry)
  | raised (x : Exc) (fills : List TlbEntry)
  | fault (f : Fault)
  | refused (r : Refusal)
deriving DecidableEq, Repr

/-- A lane that does nothing: a false predicate, or a slot without an instruction (40_packet_and_operands.md R164, R165). -/
def LaneOut.idle : LaneOut := .done [] none []

/-- A lane that queues writes and touches no memory. -/
def LaneOut.writes (ws : List Write) : LaneOut := .done ws none []

/-- A lane that raises an exception without an address. -/
def LaneOut.raise (c : ExcCode) : LaneOut := .raised ⟨c, none⟩ []

/-- The exception of a lane. -/
def LaneOut.exc : LaneOut → Option Exc
  | .raised x _ => some x
  | _ => none

/-- The queued writes of a lane. -/
def LaneOut.queue : LaneOut → List Write
  | .done ws _ _ => ws
  | _ => []

/-- The access of a lane. -/
def LaneOut.access : LaneOut → Option Access
  | .done _ a _ => a
  | _ => none

/-- The TLB entries a lane's translation takes up, whether or not the packet completes (20_memory.md R88). -/
def LaneOut.fills : LaneOut → List TlbEntry
  | .done _ _ es => es
  | .raised _ es => es
  | _ => []

/-! ## The end of a packet -/

/-- Carry out one queued write (40_packet_and_operands.md R166). -/
def State.apply (s : State) : Write → State
  | .gpr r v => s.setReg r v
  | .pred n b => s.setPredReg n b
  | .ovf v => { s with ovf := v }
  | .link b => { s with link := b }
  | .cop c v => s.writeCop c v
  | .mode m => { s with mode := m }
  | .ie b => { s with ie := b }
  | .pc v => { s with pc := v }
  | .store pa n v => s.storeBytes pa n v
  | .flushData pa => s.flushData pa
  | .flushInst pa => s.flushInst pa
  | .flushDtlb va => { s with dtlb := dropPage s.dtlb va }
  | .flushItlb va => { s with itlb := dropPage s.itlb va }

/-- Carry out queued writes in order, slot 0's first. -/
def State.applyAll (s : State) (ws : List Write) : State := ws.foldl State.apply s

/-- A queued write is a store to memory. -/
def Write.isStore : Write → Bool
  | .store .. => true
  | _ => false

/-- The data TLB takes up what the lanes' translations found (20_memory.md R88). -/
def State.fillData (s : State) (outs : List LaneOut) : State :=
  { s with dtlb := fillTlb s.dtlb (outs.flatMap LaneOut.fills) }

/-- Commit: all queued writes together, and the advance of the pc that a branch or ERET in slot 0 overrides
(10_state.md R25, 40_packet_and_operands.md R166). -/
def commit (outs : List LaneOut) (s : State) : State :=
  State.applyAll { s.fillData outs with pc := s.pc + 16#32, tick := s.tick + 1 } (outs.flatMap LaneOut.queue)

/-- The lane raised SYSCALL or BREAK, which cancel the other instructions of their packet (46_system.md R301, R302). -/
def LaneOut.cancels (o : LaneOut) : Bool := o.exc.any fun x => x.code == .syscall || x.code == .brk

/-- The store of lane `k` of a trapping packet, if it queued one and FAULT_PACKET_STORE lets it through
(40_packet_and_operands.md R169). -/
def survivingStore (tick k : Nat) (o : LaneOut) : List Write :=
  match o.queue.filter Write.isStore with
  | [] => []
  | w :: ws => bif Config.faultPacketStore tick k then w :: ws else []

/-- The stores that survive from lane `k` on, in slot order. -/
def survivingStoresFrom (tick : Nat) : Nat → List LaneOut → List Write
  | _, [] => []
  | k, o :: outs => survivingStore tick k o ++ survivingStoresFrom tick (k + 1) outs

/-- The stores of a trapping packet that FAULT_PACKET_STORE lets through (40_packet_and_operands.md R169). DESIGN CHOICE:
where both memory lanes store, each store is let through or not by a choice of its own, since 00_scope.md R7 does not say
whether a non-deterministic choice is made for each store or once for each packet; this covers both (log 13). Beside a
SYSCALL or BREAK that raises there is none, whatever else the packet holds (46_system.md R301, R302; DEDUCED, log 13). -/
def survivingStores (outs : List LaneOut) (s : State) : List Write :=
  if outs.any LaneOut.cancels then [] else survivingStoresFrom s.tick 0 outs

/-- The packet is cancelled by trap entry (40_packet_and_operands.md R169). -/
def trapPacket (outs : List LaneOut) (s : State) : State :=
  trapEntry ((outs[0]?).bind LaneOut.exc) ((outs[1]?).bind LaneOut.exc) ((outs[2]?).bind LaneOut.exc)
    ((outs[3]?).bind LaneOut.exc) 0b00#2 (State.applyAll (s.fillData outs) (survivingStores outs s))

/-- The first lane without a successor state. -/
def firstStop : List LaneOut → Option (Host.Outcome State Fault Refusal)
  | [] => none
  | .fault f :: _ => some (.fault f)
  | .refused r :: _ => some (.refused r)
  | .done .. :: outs => firstStop outs
  | .raised .. :: outs => firstStop outs

/-- Two accesses overlap and one of them stores (20_memory.md R68). -/
def Access.conflicts (a b : Access) : Bool :=
  (a.store || b.store) && decide (a.pa < b.pa + b.len) && decide (b.pa < a.pa + a.len)

/-- Some two accesses of a list conflict. -/
def anyConflict : List Access → Bool
  | [] => false
  | a :: as => as.any a.conflicts || anyConflict as

/-- The end of a packet, from what its lanes yield in slot order (40_packet_and_operands.md R171; log 24). -/
def finish (outs : List LaneOut) (s : State) : Host.Outcome State Fault Refusal :=
  match firstStop outs with
  | some stop => stop
  | none =>
    if anyConflict (outs.filterMap LaneOut.access) then .refused .overlappingAccesses
    else if outs.any (fun o => o.exc.isSome) then .next (trapPacket outs s)
    else .next (commit outs s)

/-- What a lane yields that is legal in its slot: nothing if its predicate is false; Illegal Instruction for a
kernel-only instruction in user mode; Duplicate Destination if it takes part in one; else what its instruction
yields (40_packet_and_operands.md R165, R170). -/
def guardLane (p : Pred) (kernelOnly duplicate : Bool) (lane : State → LaneOut) (s : State) : LaneOut :=
  if s.holds p then
    if kernelOnly && s.mode == .user then .raise .illegalInstruction
    else if duplicate then .raise .duplicateDestination
    else lane s
  else .idle

/-- Run a packet that holds one instruction, in slot 0, and nothing else (log 1). -/
def runAlone (p : Pred) (kernelOnly : Bool) (lane : Nat → State → LaneOut) (s : State) :
    Host.Outcome State Fault Refusal :=
  finish [guardLane p kernelOnly false (lane 0) s] s

/-! ## Shared lanes -/

/-- A data access of `n` bytes by lane `k`: its exceptions with the unaligned address, or `use` of the physical
address (43_load_store.md R240, 60_exceptions.md R325, R326, R342). -/
def accessLane (s : State) (k n : Nat) (kind : AccessKind) (addr : Word) (use : Nat → List TlbEntry → LaneOut) : LaneOut :=
  match s.translate (k + 1) kind (alignDown addr n) with
  | .ok pa fills => use pa fills
  | .pageFault fills => .raised ⟨.pageFaultData, some addr⟩ fills
  | .invalidPhysical fills => .raised ⟨.invalidPhysical, some addr⟩ fills
  | .unwritten a => .fault (.unwrittenMemory a)

/-- A load of `n` bytes, zero-extended; `ws` are its further writes (43_load_store.md R241 to R244). -/
def loadLane (n : Nat) (ws : List Write) (rd rs : Reg) (off : BitVec 12) (k : Nat) (s : State) : LaneOut :=
  accessLane s k n .read (dataAddr s rs off) fun pa fills =>
    match readLE (s.dataByte (3 * (k + 1))) pa n with
    | some v => .done (.gpr rd v :: ws) (some ⟨pa, n, false⟩) fills
    | none => .fault (.unwrittenMemory pa)

/-- A store of the low `n` bytes of Rt; `ws` are its further writes (43_load_store.md R245 to R248). -/
def storeLane (n : Nat) (ws : List Write) (rt rs : Reg) (off : BitVec 12) (k : Nat) (s : State) : LaneOut :=
  accessLane s k n .write (dataAddr s rs off) fun pa fills =>
    .done (.store pa n (s.reg rt) :: ws) (some ⟨pa, n, true⟩) fills

/-- ERET: the return from an exception (46_system.md R305). -/
def eretWrites (s : State) : List Write :=
  [.pc (s.epc &&& 0xFFFFFFF0#32), .mode (if s.epc.getLsbD epcMBit then .kernel else .user), .ie (s.epc.getLsbD epcIfBit),
   .link false]

end Sys2Proof.Machine
end

