-- ==== Sys2Proof/Machine/Alu.lean ====
section
/-! DEFINITION. The ALU instructions that write a general register (41_alu.md R200 to R211). `laneX` is what the instruction
yields in a lane of a packet, `execX` the packet that holds it alone. -/
namespace Sys2Proof.Machine

/-- A two-operand ALU instruction: Rd gets the result on Rs and Op2 (41_alu.md R200 to R206). -/
def alu2Lane (o : Alu2Op) (rd rs : Reg) (b : Op2) (s : State) : LaneOut :=
  .writes [.gpr rd (Alu2Op.result o (s.reg rs) (Op2.value s b))]

/-- A one-operand ALU instruction: Rd gets the result on Op2 (41_alu.md R207 to R211). -/
def alu1Lane (o : Alu1Op) (rd : Reg) (b : Op1) (s : State) : LaneOut :=
  .writes [.gpr rd (Alu1Op.result o (Op1.value s b))]

/-- ADD Rd, Rs, rotated 10-bit constant (41_alu.md R200). -/
def laneAddShort (rd rs : Reg) (imm : BitVec 10) (rot : BitVec 4) (_k : Nat) (s : State) : LaneOut :=
  alu2Lane .addOp rd rs (.short imm rot) s

/-- A packet that holds this ADD alone (log 1). -/
def execAddShort (p : Pred) (rd rs : Reg) (imm : BitVec 10) (rot : BitVec 4) (s : State) : Host.Outcome State Fault Refusal :=
  runAlone p false (laneAddShort rd rs imm rot) s

/-- ADD Rd, Rs, Rt shifted by a constant (41_alu.md R200). -/
def laneAddReg (rd rs rt : Reg) (ty : ShiftType) (amt : BitVec 5) (_k : Nat) (s : State) : LaneOut :=
  alu2Lane .addOp rd rs (.reg rt ty amt) s

/-- A packet that holds this ADD alone (log 1). -/
def execAddReg (p : Pred) (rd rs rt : Reg) (ty : ShiftType) (amt : BitVec 5) (s : State) : Host.Outcome State Fault Refusal :=
  runAlone p false (laneAddReg rd rs rt ty amt) s

/-- ADD Rd, Rs, 32-bit constant of the next slot (41_alu.md R200). -/
def laneAddLong (rd rs : Reg) (imm : Word) (_k : Nat) (s : State) : LaneOut :=
  alu2Lane .addOp rd rs (.long imm) s

/-- A packet that holds this ADD alone (log 1). -/
def execAddLong (p : Pred) (rd rs : Reg) (imm : Word) (s : State) : Host.Outcome State Fault Refusal :=
  runAlone p false (laneAddLong rd rs imm) s

/-- AND Rd, Rs, rotated 10-bit constant (41_alu.md R201). -/
def laneAndShort (rd rs : Reg) (imm : BitVec 10) (rot : BitVec 4) (_k : Nat) (s : State) : LaneOut :=
  alu2Lane .andOp rd rs (.short imm rot) s

/-- A packet that holds this AND alone (log 1). -/
def execAndShort (p : Pred) (rd rs : Reg) (imm : BitVec 10) (rot : BitVec 4) (s : State) : Host.Outcome State Fault Refusal :=
  runAlone p false (laneAndShort rd rs imm rot) s

/-- AND Rd, Rs, Rt shifted by a constant (41_alu.md R201). -/
def laneAndReg (rd rs rt : Reg) (ty : ShiftType) (amt : BitVec 5) (_k : Nat) (s : State) : LaneOut :=
  alu2Lane .andOp rd rs (.reg rt ty amt) s

/-- A packet that holds this AND alone (log 1). -/
def execAndReg (p : Pred) (rd rs rt : Reg) (ty : ShiftType) (amt : BitVec 5) (s : State) : Host.Outcome State Fault Refusal :=
  runAlone p false (laneAndReg rd rs rt ty amt) s

/-- AND Rd, Rs, 32-bit constant of the next slot (41_alu.md R201). -/
def laneAndLong (rd rs : Reg) (imm : Word) (_k : Nat) (s : State) : LaneOut :=
  alu2Lane .andOp rd rs (.long imm) s

/-- A packet that holds this AND alone (log 1). -/
def execAndLong (p : Pred) (rd rs : Reg) (imm : Word) (s : State) : Host.Outcome State Fault Refusal :=
  runAlone p false (laneAndLong rd rs imm) s

/-- NOR Rd, Rs, rotated 10-bit constant (41_alu.md R202). -/
def laneNorShort (rd rs : Reg) (imm : BitVec 10) (rot : BitVec 4) (_k : Nat) (s : State) : LaneOut :=
  alu2Lane .norOp rd rs (.short imm rot) s

/-- A packet that holds this NOR alone (log 1). -/
def execNorShort (p : Pred) (rd rs : Reg) (imm : BitVec 10) (rot : BitVec 4) (s : State) : Host.Outcome State Fault Refusal :=
  runAlone p false (laneNorShort rd rs imm rot) s

/-- NOR Rd, Rs, Rt shifted by a constant (41_alu.md R202). -/
def laneNorReg (rd rs rt : Reg) (ty : ShiftType) (amt : BitVec 5) (_k : Nat) (s : State) : LaneOut :=
  alu2Lane .norOp rd rs (.reg rt ty amt) s

/-- A packet that holds this NOR alone (log 1). -/
def execNorReg (p : Pred) (rd rs rt : Reg) (ty : ShiftType) (amt : BitVec 5) (s : State) : Host.Outcome State Fault Refusal :=
  runAlone p false (laneNorReg rd rs rt ty amt) s

/-- NOR Rd, Rs, 32-bit constant of the next slot (41_alu.md R202). -/
def laneNorLong (rd rs : Reg) (imm : Word) (_k : Nat) (s : State) : LaneOut :=
  alu2Lane .norOp rd rs (.long imm) s

/-- A packet that holds this NOR alone (log 1). -/
def execNorLong (p : Pred) (rd rs : Reg) (imm : Word) (s : State) : Host.Outcome State Fault Refusal :=
  runAlone p false (laneNorLong rd rs imm) s

/-- OR Rd, Rs, rotated 10-bit constant (41_alu.md R203). -/
def laneOrShort (rd rs : Reg) (imm : BitVec 10) (rot : BitVec 4) (_k : Nat) (s : State) : LaneOut :=
  alu2Lane .orOp rd rs (.short imm rot) s

/-- A packet that holds this OR alone (log 1). -/
def execOrShort (p : Pred) (rd rs : Reg) (imm : BitVec 10) (rot : BitVec 4) (s : State) : Host.Outcome State Fault Refusal :=
  runAlone p false (laneOrShort rd rs imm rot) s

/-- OR Rd, Rs, Rt shifted by a constant (41_alu.md R203). -/
def laneOrReg (rd rs rt : Reg) (ty : ShiftType) (amt : BitVec 5) (_k : Nat) (s : State) : LaneOut :=
  alu2Lane .orOp rd rs (.reg rt ty amt) s

/-- A packet that holds this OR alone (log 1). -/
def execOrReg (p : Pred) (rd rs rt : Reg) (ty : ShiftType) (amt : BitVec 5) (s : State) : Host.Outcome State Fault Refusal :=
  runAlone p false (laneOrReg rd rs rt ty amt) s

/-- OR Rd, Rs, 32-bit constant of the next slot (41_alu.md R203). -/
def laneOrLong (rd rs : Reg) (imm : Word) (_k : Nat) (s : State) : LaneOut :=
  alu2Lane .orOp rd rs (.long imm) s

/-- A packet that holds this OR alone (log 1). -/
def execOrLong (p : Pred) (rd rs : Reg) (imm : Word) (s : State) : Host.Outcome State Fault Refusal :=
  runAlone p false (laneOrLong rd rs imm) s

/-- SUB Rd, Rs, rotated 10-bit constant (41_alu.md R204). -/
def laneSubShort (rd rs : Reg) (imm : BitVec 10) (rot : BitVec 4) (_k : Nat) (s : State) : LaneOut :=
  alu2Lane .subOp rd rs (.short imm rot) s

/-- A packet that holds this SUB alone (log 1). -/
def execSubShort (p : Pred) (rd rs : Reg) (imm : BitVec 10) (rot : BitVec 4) (s : State) : Host.Outcome State Fault Refusal :=
  runAlone p false (laneSubShort rd rs imm rot) s

/-- SUB Rd, Rs, Rt shifted by a constant (41_alu.md R204). -/
def laneSubReg (rd rs rt : Reg) (ty : ShiftType) (amt : BitVec 5) (_k : Nat) (s : State) : LaneOut :=
  alu2Lane .subOp rd rs (.reg rt ty amt) s

/-- A packet that holds this SUB alone (log 1). -/
def execSubReg (p : Pred) (rd rs rt : Reg) (ty : ShiftType) (amt : BitVec 5) (s : State) : Host.Outcome State Fault Refusal :=
  runAlone p false (laneSubReg rd rs rt ty amt) s

/-- SUB Rd, Rs, 32-bit constant of the next slot (41_alu.md R204). -/
def laneSubLong (rd rs : Reg) (imm : Word) (_k : Nat) (s : State) : LaneOut :=
  alu2Lane .subOp rd rs (.long imm) s

/-- A packet that holds this SUB alone (log 1). -/
def execSubLong (p : Pred) (rd rs : Reg) (imm : Word) (s : State) : Host.Outcome State Fault Refusal :=
  runAlone p false (laneSubLong rd rs imm) s

/-- RSB Rd, Rs, rotated 10-bit constant (41_alu.md R205). -/
def laneRsbShort (rd rs : Reg) (imm : BitVec 10) (rot : BitVec 4) (_k : Nat) (s : State) : LaneOut :=
  alu2Lane .rsbOp rd rs (.short imm rot) s

/-- A packet that holds this RSB alone (log 1). -/
def execRsbShort (p : Pred) (rd rs : Reg) (imm : BitVec 10) (rot : BitVec 4) (s : State) : Host.Outcome State Fault Refusal :=
  runAlone p false (laneRsbShort rd rs imm rot) s

/-- RSB Rd, Rs, Rt shifted by a constant (41_alu.md R205). -/
def laneRsbReg (rd rs rt : Reg) (ty : ShiftType) (amt : BitVec 5) (_k : Nat) (s : State) : LaneOut :=
  alu2Lane .rsbOp rd rs (.reg rt ty amt) s

/-- A packet that holds this RSB alone (log 1). -/
def execRsbReg (p : Pred) (rd rs rt : Reg) (ty : ShiftType) (amt : BitVec 5) (s : State) : Host.Outcome State Fault Refusal :=
  runAlone p false (laneRsbReg rd rs rt ty amt) s

/-- RSB Rd, Rs, 32-bit constant of the next slot (41_alu.md R205). -/
def laneRsbLong (rd rs : Reg) (imm : Word) (_k : Nat) (s : State) : LaneOut :=
  alu2Lane .rsbOp rd rs (.long imm) s

/-- A packet that holds this RSB alone (log 1). -/
def execRsbLong (p : Pred) (rd rs : Reg) (imm : Word) (s : State) : Host.Outcome State Fault Refusal :=
  runAlone p false (laneRsbLong rd rs imm) s

/-- XOR Rd, Rs, rotated 10-bit constant (41_alu.md R206). -/
def laneXorShort (rd rs : Reg) (imm : BitVec 10) (rot : BitVec 4) (_k : Nat) (s : State) : LaneOut :=
  alu2Lane .xorOp rd rs (.short imm rot) s

/-- A packet that holds this XOR alone (log 1). -/
def execXorShort (p : Pred) (rd rs : Reg) (imm : BitVec 10) (rot : BitVec 4) (s : State) : Host.Outcome State Fault Refusal :=
  runAlone p false (laneXorShort rd rs imm rot) s

/-- XOR Rd, Rs, Rt shifted by a constant (41_alu.md R206). -/
def laneXorReg (rd rs rt : Reg) (ty : ShiftType) (amt : BitVec 5) (_k : Nat) (s : State) : LaneOut :=
  alu2Lane .xorOp rd rs (.reg rt ty amt) s

/-- A packet that holds this XOR alone (log 1). -/
def execXorReg (p : Pred) (rd rs rt : Reg) (ty : ShiftType) (amt : BitVec 5) (s : State) : Host.Outcome State Fault Refusal :=
  runAlone p false (laneXorReg rd rs rt ty amt) s

/-- XOR Rd, Rs, 32-bit constant of the next slot (41_alu.md R206). -/
def laneXorLong (rd rs : Reg) (imm : Word) (_k : Nat) (s : State) : LaneOut :=
  alu2Lane .xorOp rd rs (.long imm) s

/-- A packet that holds this XOR alone (log 1). -/
def execXorLong (p : Pred) (rd rs : Reg) (imm : Word) (s : State) : Host.Outcome State Fault Refusal :=
  runAlone p false (laneXorLong rd rs imm) s

/-- MOV Rd, rotated 15-bit constant (41_alu.md R207). -/
def laneMovShort (rd : Reg) (imm : BitVec 15) (rot : BitVec 4) (_k : Nat) (s : State) : LaneOut :=
  alu1Lane .movOp rd (.short imm rot) s

/-- A packet that holds this MOV alone (log 1). -/
def execMovShort (p : Pred) (rd : Reg) (imm : BitVec 15) (rot : BitVec 4) (s : State) : Host.Outcome State Fault Refusal :=
  runAlone p false (laneMovShort rd imm rot) s

/-- MOV Rd, Rt shifted by a constant (41_alu.md R207). -/
def laneMovReg (rd rt : Reg) (ty : ShiftType) (amt : BitVec 5) (_k : Nat) (s : State) : LaneOut :=
  alu1Lane .movOp rd (.reg rt ty amt) s

/-- A packet that holds this MOV alone (log 1). -/
def execMovReg (p : Pred) (rd rt : Reg) (ty : ShiftType) (amt : BitVec 5) (s : State) : Host.Outcome State Fault Refusal :=
  runAlone p false (laneMovReg rd rt ty amt) s

/-- MOV Rd, Rt shifted by the value of Rs (41_alu.md R207). -/
def laneMovRegsh (rd rt : Reg) (ty : ShiftType) (rs : Reg) (_k : Nat) (s : State) : LaneOut :=
  alu1Lane .movOp rd (.regsh rt ty rs) s

/-- A packet that holds this MOV alone (log 1). -/
def execMovRegsh (p : Pred) (rd rt : Reg) (ty : ShiftType) (rs : Reg) (s : State) : Host.Outcome State Fault Refusal :=
  runAlone p false (laneMovRegsh rd rt ty rs) s

/-- MOV Rd, 32-bit constant of the next slot (41_alu.md R207). -/
def laneMovLong (rd : Reg) (imm : Word) (_k : Nat) (s : State) : LaneOut :=
  alu1Lane .movOp rd (.long imm) s

/-- A packet that holds this MOV alone (log 1). -/
def execMovLong (p : Pred) (rd : Reg) (imm : Word) (s : State) : Host.Outcome State Fault Refusal :=
  runAlone p false (laneMovLong rd imm) s

/-- MVN Rd, rotated 15-bit constant (41_alu.md R208). -/
def laneMvnShort (rd : Reg) (imm : BitVec 15) (rot : BitVec 4) (_k : Nat) (s : State) : LaneOut :=
  alu1Lane .mvnOp rd (.short imm rot) s

/-- A packet that holds this MVN alone (log 1). -/
def execMvnShort (p : Pred) (rd : Reg) (imm : BitVec 15) (rot : BitVec 4) (s : State) : Host.Outcome State Fault Refusal :=
  runAlone p false (laneMvnShort rd imm rot) s

/-- MVN Rd, Rt shifted by a constant (41_alu.md R208). -/
def laneMvnReg (rd rt : Reg) (ty : ShiftType) (amt : BitVec 5) (_k : Nat) (s : State) : LaneOut :=
  alu1Lane .mvnOp rd (.reg rt ty amt) s

/-- A packet that holds this MVN alone (log 1). -/
def execMvnReg (p : Pred) (rd rt : Reg) (ty : ShiftType) (amt : BitVec 5) (s : State) : Host.Outcome State Fault Refusal :=
  runAlone p false (laneMvnReg rd rt ty amt) s

/-- MVN Rd, Rt shifted by the value of Rs (41_alu.md R208). -/
def laneMvnRegsh (rd rt : Reg) (ty : ShiftType) (rs : Reg) (_k : Nat) (s : State) : LaneOut :=
  alu1Lane .mvnOp rd (.regsh rt ty rs) s

/-- A packet that holds this MVN alone (log 1). -/
def execMvnRegsh (p : Pred) (rd rt : Reg) (ty : ShiftType) (rs : Reg) (s : State) : Host.Outcome State Fault Refusal :=
  runAlone p false (laneMvnRegsh rd rt ty rs) s

/-- MVN Rd, 32-bit constant of the next slot (41_alu.md R208). -/
def laneMvnLong (rd : Reg) (imm : Word) (_k : Nat) (s : State) : LaneOut :=
  alu1Lane .mvnOp rd (.long imm) s

/-- A packet that holds this MVN alone (log 1). -/
def execMvnLong (p : Pred) (rd : Reg) (imm : Word) (s : State) : Host.Outcome State Fault Refusal :=
  runAlone p false (laneMvnLong rd imm) s

/-- SXB Rd, rotated 15-bit constant (41_alu.md R210). -/
def laneSxbShort (rd : Reg) (imm : BitVec 15) (rot : BitVec 4) (_k : Nat) (s : State) : LaneOut :=
  alu1Lane .sxbOp rd (.short imm rot) s

/-- A packet that holds this SXB alone (log 1). -/
def execSxbShort (p : Pred) (rd : Reg) (imm : BitVec 15) (rot : BitVec 4) (s : State) : Host.Outcome State Fault Refusal :=
  runAlone p false (laneSxbShort rd imm rot) s

/-- SXB Rd, Rt shifted by a constant (41_alu.md R210). -/
def laneSxbReg (rd rt : Reg) (ty : ShiftType) (amt : BitVec 5) (_k : Nat) (s : State) : LaneOut :=
  alu1Lane .sxbOp rd (.reg rt ty amt) s

/-- A packet that holds this SXB alone (log 1). -/
def execSxbReg (p : Pred) (rd rt : Reg) (ty : ShiftType) (amt : BitVec 5) (s : State) : Host.Outcome State Fault Refusal :=
  runAlone p false (laneSxbReg rd rt ty amt) s

/-- SXB Rd, Rt shifted by the value of Rs (41_alu.md R210). -/
def laneSxbRegsh (rd rt : Reg) (ty : ShiftType) (rs : Reg) (_k : Nat) (s : State) : LaneOut :=
  alu1Lane .sxbOp rd (.regsh rt ty rs) s

/-- A packet that holds this SXB alone (log 1). -/
def execSxbRegsh (p : Pred) (rd rt : Reg) (ty : ShiftType) (rs : Reg) (s : State) : Host.Outcome State Fault Refusal :=
  runAlone p false (laneSxbRegsh rd rt ty rs) s

/-- SXB Rd, 32-bit constant of the next slot (41_alu.md R210). -/
def laneSxbLong (rd : Reg) (imm : Word) (_k : Nat) (s : State) : LaneOut :=
  alu1Lane .sxbOp rd (.long imm) s

/-- A packet that holds this SXB alone (log 1). -/
def execSxbLong (p : Pred) (rd : Reg) (imm : Word) (s : State) : Host.Outcome State Fault Refusal :=
  runAlone p false (laneSxbLong rd imm) s

/-- SXH Rd, rotated 15-bit constant (41_alu.md R211). -/
def laneSxhShort (rd : Reg) (imm : BitVec 15) (rot : BitVec 4) (_k : Nat) (s : State) : LaneOut :=
  alu1Lane .sxhOp rd (.short imm rot) s

/-- A packet that holds this SXH alone (log 1). -/
def execSxhShort (p : Pred) (rd : Reg) (imm : BitVec 15) (rot : BitVec 4) (s : State) : Host.Outcome State Fault Refusal :=
  runAlone p false (laneSxhShort rd imm rot) s

/-- SXH Rd, Rt shifted by a constant (41_alu.md R211). -/
def laneSxhReg (rd rt : Reg) (ty : ShiftType) (amt : BitVec 5) (_k : Nat) (s : State) : LaneOut :=
  alu1Lane .sxhOp rd (.reg rt ty amt) s

/-- A packet that holds this SXH alone (log 1). -/
def execSxhReg (p : Pred) (rd rt : Reg) (ty : ShiftType) (amt : BitVec 5) (s : State) : Host.Outcome State Fault Refusal :=
  runAlone p false (laneSxhReg rd rt ty amt) s

/-- SXH Rd, Rt shifted by the value of Rs (41_alu.md R211). -/
def laneSxhRegsh (rd rt : Reg) (ty : ShiftType) (rs : Reg) (_k : Nat) (s : State) : LaneOut :=
  alu1Lane .sxhOp rd (.regsh rt ty rs) s

/-- A packet that holds this SXH alone (log 1). -/
def execSxhRegsh (p : Pred) (rd rt : Reg) (ty : ShiftType) (rs : Reg) (s : State) : Host.Outcome State Fault Refusal :=
  runAlone p false (laneSxhRegsh rd rt ty rs) s

/-- SXH Rd, 32-bit constant of the next slot (41_alu.md R211). -/
def laneSxhLong (rd : Reg) (imm : Word) (_k : Nat) (s : State) : LaneOut :=
  alu1Lane .sxhOp rd (.long imm) s

/-- A packet that holds this SXH alone (log 1). -/
def execSxhLong (p : Pred) (rd : Reg) (imm : Word) (s : State) : Host.Outcome State Fault Refusal :=
  runAlone p false (laneSxhLong rd imm) s

end Sys2Proof.Machine
end

