-- ==== Sys2Proof/Machine/Branch.lean ====
section
/-! DEFINITION. The branches (44_branch.md R270 to R272). BL saves the address of its own packet in R31. -/
namespace Sys2Proof.Machine


/-- B to the packet at a signed packet offset from the pc (44_branch.md R271). -/
def laneBImm (off : BitVec 25) (_k : Nat) (s : State) : LaneOut :=
  .writes [.pc (Target.addr s (.imm off))]

/-- A packet that holds this B alone (log 1). -/
def execBImm (p : Pred) (off : BitVec 25) (s : State) : Host.Outcome State Fault Refusal :=
  runAlone p false (laneBImm off) s

/-- B to the packet at a signed packet offset from Rs (44_branch.md R271). -/
def laneBReg (rs : Reg) (off : BitVec 20) (_k : Nat) (s : State) : LaneOut :=
  .writes [.pc (Target.addr s (.reg rs off))]

/-- A packet that holds this B alone (log 1). -/
def execBReg (p : Pred) (rs : Reg) (off : BitVec 20) (s : State) : Host.Outcome State Fault Refusal :=
  runAlone p false (laneBReg rs off) s

/-- BL to the packet at a signed packet offset from the pc (44_branch.md R272). -/
def laneBlImm (off : BitVec 25) (_k : Nat) (s : State) : LaneOut :=
  .writes [.gpr 31 s.pc, .pc (Target.addr s (.imm off))]

/-- A packet that holds this BL alone (log 1). -/
def execBlImm (p : Pred) (off : BitVec 25) (s : State) : Host.Outcome State Fault Refusal :=
  runAlone p false (laneBlImm off) s

/-- BL to the packet at a signed packet offset from Rs (44_branch.md R272). -/
def laneBlReg (rs : Reg) (off : BitVec 20) (_k : Nat) (s : State) : LaneOut :=
  .writes [.gpr 31 s.pc, .pc (Target.addr s (.reg rs off))]

/-- A packet that holds this BL alone (log 1). -/
def execBlReg (p : Pred) (rs : Reg) (off : BitVec 20) (s : State) : Host.Outcome State Fault Refusal :=
  runAlone p false (laneBlReg rs off) s

end Sys2Proof.Machine
end

