-- ==== Sys2Proof/Machine/Compare.lean ====
section
/-! DEFINITION. The compares, which write a predicate register (42_compare.md R220 to R227). -/
namespace Sys2Proof.Machine

/-- A compare: Pd gets the bit of Rs and Op2 (42_compare.md R220). -/
def cmpLane (o : CmpOp) (pd : PredReg) (rs : Reg) (b : Op2) (s : State) : LaneOut :=
  .writes [.pred pd (CmpOp.result o (s.reg rs) (Op2.value s b))]

/-- CMPLTU Pd, Rs, rotated 10-bit constant (42_compare.md R221). -/
def laneCmpltuShort (pd : PredReg) (rs : Reg) (imm : BitVec 10) (rot : BitVec 4) (_k : Nat) (s : State) : LaneOut :=
  cmpLane .cmpltuOp pd rs (.short imm rot) s

/-- A packet that holds this CMPLTU alone (log 1). -/
def execCmpltuShort (p : Pred) (pd : PredReg) (rs : Reg) (imm : BitVec 10) (rot : BitVec 4) (s : State) : Host.Outcome State Fault Refusal :=
  runAlone p false (laneCmpltuShort pd rs imm rot) s

/-- CMPLTU Pd, Rs, Rt shifted by a constant (42_compare.md R221). -/
def laneCmpltuReg (pd : PredReg) (rs rt : Reg) (ty : ShiftType) (amt : BitVec 5) (_k : Nat) (s : State) : LaneOut :=
  cmpLane .cmpltuOp pd rs (.reg rt ty amt) s

/-- A packet that holds this CMPLTU alone (log 1). -/
def execCmpltuReg (p : Pred) (pd : PredReg) (rs rt : Reg) (ty : ShiftType) (amt : BitVec 5) (s : State) : Host.Outcome State Fault Refusal :=
  runAlone p false (laneCmpltuReg pd rs rt ty amt) s

/-- CMPLTU Pd, Rs, 32-bit constant of the next slot (42_compare.md R221). -/
def laneCmpltuLong (pd : PredReg) (rs : Reg) (imm : Word) (_k : Nat) (s : State) : LaneOut :=
  cmpLane .cmpltuOp pd rs (.long imm) s

/-- A packet that holds this CMPLTU alone (log 1). -/
def execCmpltuLong (p : Pred) (pd : PredReg) (rs : Reg) (imm : Word) (s : State) : Host.Outcome State Fault Refusal :=
  runAlone p false (laneCmpltuLong pd rs imm) s

/-- CMPLEU Pd, Rs, rotated 10-bit constant (42_compare.md R222). -/
def laneCmpleuShort (pd : PredReg) (rs : Reg) (imm : BitVec 10) (rot : BitVec 4) (_k : Nat) (s : State) : LaneOut :=
  cmpLane .cmpleuOp pd rs (.short imm rot) s

/-- A packet that holds this CMPLEU alone (log 1). -/
def execCmpleuShort (p : Pred) (pd : PredReg) (rs : Reg) (imm : BitVec 10) (rot : BitVec 4) (s : State) : Host.Outcome State Fault Refusal :=
  runAlone p false (laneCmpleuShort pd rs imm rot) s

/-- CMPLEU Pd, Rs, Rt shifted by a constant (42_compare.md R222). -/
def laneCmpleuReg (pd : PredReg) (rs rt : Reg) (ty : ShiftType) (amt : BitVec 5) (_k : Nat) (s : State) : LaneOut :=
  cmpLane .cmpleuOp pd rs (.reg rt ty amt) s

/-- A packet that holds this CMPLEU alone (log 1). -/
def execCmpleuReg (p : Pred) (pd : PredReg) (rs rt : Reg) (ty : ShiftType) (amt : BitVec 5) (s : State) : Host.Outcome State Fault Refusal :=
  runAlone p false (laneCmpleuReg pd rs rt ty amt) s

/-- CMPLEU Pd, Rs, 32-bit constant of the next slot (42_compare.md R222). -/
def laneCmpleuLong (pd : PredReg) (rs : Reg) (imm : Word) (_k : Nat) (s : State) : LaneOut :=
  cmpLane .cmpleuOp pd rs (.long imm) s

/-- A packet that holds this CMPLEU alone (log 1). -/
def execCmpleuLong (p : Pred) (pd : PredReg) (rs : Reg) (imm : Word) (s : State) : Host.Outcome State Fault Refusal :=
  runAlone p false (laneCmpleuLong pd rs imm) s

/-- CMPEQ Pd, Rs, rotated 10-bit constant (42_compare.md R223). -/
def laneCmpeqShort (pd : PredReg) (rs : Reg) (imm : BitVec 10) (rot : BitVec 4) (_k : Nat) (s : State) : LaneOut :=
  cmpLane .cmpeqOp pd rs (.short imm rot) s

/-- A packet that holds this CMPEQ alone (log 1). -/
def execCmpeqShort (p : Pred) (pd : PredReg) (rs : Reg) (imm : BitVec 10) (rot : BitVec 4) (s : State) : Host.Outcome State Fault Refusal :=
  runAlone p false (laneCmpeqShort pd rs imm rot) s

/-- CMPEQ Pd, Rs, Rt shifted by a constant (42_compare.md R223). -/
def laneCmpeqReg (pd : PredReg) (rs rt : Reg) (ty : ShiftType) (amt : BitVec 5) (_k : Nat) (s : State) : LaneOut :=
  cmpLane .cmpeqOp pd rs (.reg rt ty amt) s

/-- A packet that holds this CMPEQ alone (log 1). -/
def execCmpeqReg (p : Pred) (pd : PredReg) (rs rt : Reg) (ty : ShiftType) (amt : BitVec 5) (s : State) : Host.Outcome State Fault Refusal :=
  runAlone p false (laneCmpeqReg pd rs rt ty amt) s

/-- CMPEQ Pd, Rs, 32-bit constant of the next slot (42_compare.md R223). -/
def laneCmpeqLong (pd : PredReg) (rs : Reg) (imm : Word) (_k : Nat) (s : State) : LaneOut :=
  cmpLane .cmpeqOp pd rs (.long imm) s

/-- A packet that holds this CMPEQ alone (log 1). -/
def execCmpeqLong (p : Pred) (pd : PredReg) (rs : Reg) (imm : Word) (s : State) : Host.Outcome State Fault Refusal :=
  runAlone p false (laneCmpeqLong pd rs imm) s

/-- CMPLTS Pd, Rs, rotated 10-bit constant (42_compare.md R224). -/
def laneCmpltsShort (pd : PredReg) (rs : Reg) (imm : BitVec 10) (rot : BitVec 4) (_k : Nat) (s : State) : LaneOut :=
  cmpLane .cmpltsOp pd rs (.short imm rot) s

/-- A packet that holds this CMPLTS alone (log 1). -/
def execCmpltsShort (p : Pred) (pd : PredReg) (rs : Reg) (imm : BitVec 10) (rot : BitVec 4) (s : State) : Host.Outcome State Fault Refusal :=
  runAlone p false (laneCmpltsShort pd rs imm rot) s

/-- CMPLTS Pd, Rs, Rt shifted by a constant (42_compare.md R224). -/
def laneCmpltsReg (pd : PredReg) (rs rt : Reg) (ty : ShiftType) (amt : BitVec 5) (_k : Nat) (s : State) : LaneOut :=
  cmpLane .cmpltsOp pd rs (.reg rt ty amt) s

/-- A packet that holds this CMPLTS alone (log 1). -/
def execCmpltsReg (p : Pred) (pd : PredReg) (rs rt : Reg) (ty : ShiftType) (amt : BitVec 5) (s : State) : Host.Outcome State Fault Refusal :=
  runAlone p false (laneCmpltsReg pd rs rt ty amt) s

/-- CMPLTS Pd, Rs, 32-bit constant of the next slot (42_compare.md R224). -/
def laneCmpltsLong (pd : PredReg) (rs : Reg) (imm : Word) (_k : Nat) (s : State) : LaneOut :=
  cmpLane .cmpltsOp pd rs (.long imm) s

/-- A packet that holds this CMPLTS alone (log 1). -/
def execCmpltsLong (p : Pred) (pd : PredReg) (rs : Reg) (imm : Word) (s : State) : Host.Outcome State Fault Refusal :=
  runAlone p false (laneCmpltsLong pd rs imm) s

/-- CMPLES Pd, Rs, rotated 10-bit constant (42_compare.md R225). -/
def laneCmplesShort (pd : PredReg) (rs : Reg) (imm : BitVec 10) (rot : BitVec 4) (_k : Nat) (s : State) : LaneOut :=
  cmpLane .cmplesOp pd rs (.short imm rot) s

/-- A packet that holds this CMPLES alone (log 1). -/
def execCmplesShort (p : Pred) (pd : PredReg) (rs : Reg) (imm : BitVec 10) (rot : BitVec 4) (s : State) : Host.Outcome State Fault Refusal :=
  runAlone p false (laneCmplesShort pd rs imm rot) s

/-- CMPLES Pd, Rs, Rt shifted by a constant (42_compare.md R225). -/
def laneCmplesReg (pd : PredReg) (rs rt : Reg) (ty : ShiftType) (amt : BitVec 5) (_k : Nat) (s : State) : LaneOut :=
  cmpLane .cmplesOp pd rs (.reg rt ty amt) s

/-- A packet that holds this CMPLES alone (log 1). -/
def execCmplesReg (p : Pred) (pd : PredReg) (rs rt : Reg) (ty : ShiftType) (amt : BitVec 5) (s : State) : Host.Outcome State Fault Refusal :=
  runAlone p false (laneCmplesReg pd rs rt ty amt) s

/-- CMPLES Pd, Rs, 32-bit constant of the next slot (42_compare.md R225). -/
def laneCmplesLong (pd : PredReg) (rs : Reg) (imm : Word) (_k : Nat) (s : State) : LaneOut :=
  cmpLane .cmplesOp pd rs (.long imm) s

/-- A packet that holds this CMPLES alone (log 1). -/
def execCmplesLong (p : Pred) (pd : PredReg) (rs : Reg) (imm : Word) (s : State) : Host.Outcome State Fault Refusal :=
  runAlone p false (laneCmplesLong pd rs imm) s

/-- CMPBS Pd, Rs, rotated 10-bit constant (42_compare.md R226). -/
def laneCmpbsShort (pd : PredReg) (rs : Reg) (imm : BitVec 10) (rot : BitVec 4) (_k : Nat) (s : State) : LaneOut :=
  cmpLane .cmpbsOp pd rs (.short imm rot) s

/-- A packet that holds this CMPBS alone (log 1). -/
def execCmpbsShort (p : Pred) (pd : PredReg) (rs : Reg) (imm : BitVec 10) (rot : BitVec 4) (s : State) : Host.Outcome State Fault Refusal :=
  runAlone p false (laneCmpbsShort pd rs imm rot) s

/-- CMPBS Pd, Rs, Rt shifted by a constant (42_compare.md R226). -/
def laneCmpbsReg (pd : PredReg) (rs rt : Reg) (ty : ShiftType) (amt : BitVec 5) (_k : Nat) (s : State) : LaneOut :=
  cmpLane .cmpbsOp pd rs (.reg rt ty amt) s

/-- A packet that holds this CMPBS alone (log 1). -/
def execCmpbsReg (p : Pred) (pd : PredReg) (rs rt : Reg) (ty : ShiftType) (amt : BitVec 5) (s : State) : Host.Outcome State Fault Refusal :=
  runAlone p false (laneCmpbsReg pd rs rt ty amt) s

/-- CMPBS Pd, Rs, 32-bit constant of the next slot (42_compare.md R226). -/
def laneCmpbsLong (pd : PredReg) (rs : Reg) (imm : Word) (_k : Nat) (s : State) : LaneOut :=
  cmpLane .cmpbsOp pd rs (.long imm) s

/-- A packet that holds this CMPBS alone (log 1). -/
def execCmpbsLong (p : Pred) (pd : PredReg) (rs : Reg) (imm : Word) (s : State) : Host.Outcome State Fault Refusal :=
  runAlone p false (laneCmpbsLong pd rs imm) s

/-- CMPBC Pd, Rs, rotated 10-bit constant (42_compare.md R227). -/
def laneCmpbcShort (pd : PredReg) (rs : Reg) (imm : BitVec 10) (rot : BitVec 4) (_k : Nat) (s : State) : LaneOut :=
  cmpLane .cmpbcOp pd rs (.short imm rot) s

/-- A packet that holds this CMPBC alone (log 1). -/
def execCmpbcShort (p : Pred) (pd : PredReg) (rs : Reg) (imm : BitVec 10) (rot : BitVec 4) (s : State) : Host.Outcome State Fault Refusal :=
  runAlone p false (laneCmpbcShort pd rs imm rot) s

/-- CMPBC Pd, Rs, Rt shifted by a constant (42_compare.md R227). -/
def laneCmpbcReg (pd : PredReg) (rs rt : Reg) (ty : ShiftType) (amt : BitVec 5) (_k : Nat) (s : State) : LaneOut :=
  cmpLane .cmpbcOp pd rs (.reg rt ty amt) s

/-- A packet that holds this CMPBC alone (log 1). -/
def execCmpbcReg (p : Pred) (pd : PredReg) (rs rt : Reg) (ty : ShiftType) (amt : BitVec 5) (s : State) : Host.Outcome State Fault Refusal :=
  runAlone p false (laneCmpbcReg pd rs rt ty amt) s

/-- CMPBC Pd, Rs, 32-bit constant of the next slot (42_compare.md R227). -/
def laneCmpbcLong (pd : PredReg) (rs : Reg) (imm : Word) (_k : Nat) (s : State) : LaneOut :=
  cmpLane .cmpbcOp pd rs (.long imm) s

/-- A packet that holds this CMPBC alone (log 1). -/
def execCmpbcLong (p : Pred) (pd : PredReg) (rs : Reg) (imm : Word) (s : State) : Host.Outcome State Fault Refusal :=
  runAlone p false (laneCmpbcLong pd rs imm) s

end Sys2Proof.Machine
end

