-- ==== Sys2Proof/Machine/Control.lean ====
section
/-! DEFINITION. The Control instructions open to both modes (45_control.md R281 to R297). -/
namespace Sys2Proof.Machine

/-- A 64-bit product: the low half to Rd, the high half to ovf (45_control.md R281, R282). -/
def productLane (rd : Reg) (v : BitVec 64) : LaneOut :=
  .writes [.gpr rd (v.extractLsb' 0 32), .ovf (v.extractLsb' 32 32)]

/-- FLUSH DATA and FLUSH INST: translate x[rs] as a data read, then flush its line; an invalid physical address does
nothing (45_control.md R296). -/
def flushLineLane (w : Nat → Write) (rs : Reg) (k : Nat) (s : State) : LaneOut :=
  match s.translate (k + 1) .read (s.reg rs) with
  | .ok pa fills => .done [w pa] none fills
  | .pageFault fills => .raised ⟨.pageFaultData, some (s.reg rs)⟩ fills
  | .invalidPhysical fills => .done [] none fills
  | .unwritten a => .fault (.unwrittenMemory a)

/-- FENCE: no operation (45_control.md R295). -/
def laneFence (_k : Nat) (_s : State) : LaneOut :=
  .idle

/-- A packet that holds this FENCE alone (log 1). -/
def execFence (p : Pred) (s : State) : Host.Outcome State Fault Refusal :=
  runAlone p false laneFence s

/-- FLUSH: flush the cache line or TLB entry of the address in Rs (45_control.md R296, R297). -/
def laneFlush (ty : FlushType) (rs : Reg) (k : Nat) (s : State) : LaneOut :=
  match ty with
  | .data => flushLineLane .flushData rs k s
  | .inst => flushLineLane .flushInst rs k s
  | .dtlb => .writes [.flushDtlb (s.reg rs)]
  | .itlb => .writes [.flushItlb (s.reg rs)]

/-- A packet that holds this FLUSH alone (log 1). -/
def execFlush (p : Pred) (ty : FlushType) (rs : Reg) (s : State) : Host.Outcome State Fault Refusal :=
  runAlone p false (laneFlush ty rs) s

/-- MFHI: move ovf to Rd (45_control.md R285). -/
def laneMfhi (rd : Reg) (_k : Nat) (s : State) : LaneOut :=
  .writes [.gpr rd s.ovf]

/-- A packet that holds this MFHI alone (log 1). -/
def execMfhi (p : Pred) (rd : Reg) (s : State) : Host.Outcome State Fault Refusal :=
  runAlone p false (laneMfhi rd) s

/-- MTHI: move Rs to ovf (45_control.md R286). -/
def laneMthi (rs : Reg) (_k : Nat) (s : State) : LaneOut :=
  .writes [.ovf (s.reg rs)]

/-- A packet that holds this MTHI alone (log 1). -/
def execMthi (p : Pred) (rs : Reg) (s : State) : Host.Outcome State Fault Refusal :=
  runAlone p false (laneMthi rs) s

/-- MULT: unsigned product of Rs and Rt to Rd and ovf (45_control.md R281). -/
def laneMult (rd rs rt : Reg) (_k : Nat) (s : State) : LaneOut :=
  productLane rd (productU (s.reg rs) (s.reg rt))

/-- A packet that holds this MULT alone (log 1). -/
def execMult (p : Pred) (rd rs rt : Reg) (s : State) : Host.Outcome State Fault Refusal :=
  runAlone p false (laneMult rd rs rt) s

/-- MULTS: signed product of Rs and Rt to Rd and ovf (45_control.md R282). -/
def laneMults (rd rs rt : Reg) (_k : Nat) (s : State) : LaneOut :=
  productLane rd (productS (s.reg rs) (s.reg rt))

/-- A packet that holds this MULTS alone (log 1). -/
def execMults (p : Pred) (rd rs rt : Reg) (s : State) : Host.Outcome State Fault Refusal :=
  runAlone p false (laneMults rd rs rt) s

/-- DIV: quotient of Rs and Rt to Rd, remainder to ovf (45_control.md R283). -/
def laneDiv (rd rs rt : Reg) (_k : Nat) (s : State) : LaneOut :=
  if s.reg rt = 0#32 then .raise .divideByZero
  else .writes [.gpr rd (divide (s.reg rs) (s.reg rt)).1, .ovf (divide (s.reg rs) (s.reg rt)).2]

/-- A packet that holds this DIV alone (log 1). -/
def execDiv (p : Pred) (rd rs rt : Reg) (s : State) : Host.Outcome State Fault Refusal :=
  runAlone p false (laneDiv rd rs rt) s

end Sys2Proof.Machine
end

