-- ==== Sys2Proof/Machine/LoadStore.lean ====
section
/-! DEFINITION. The memory instructions (43_load_store.md R240 to R248). LL sets the link bit; SC stores and answers 1
in P0 only if the link bit is set, and clears it. -/
namespace Sys2Proof.Machine


/-- LB Rd, (Rs + signed byte offset) (43_load_store.md R241). -/
def laneLb (rd rs : Reg) (off : BitVec 12) (k : Nat) (s : State) : LaneOut :=
  loadLane 1 [] rd rs off k s

/-- A packet that holds this LB alone (log 1). -/
def execLb (p : Pred) (rd rs : Reg) (off : BitVec 12) (s : State) : Host.Outcome State Fault Refusal :=
  runAlone p false (laneLb rd rs off) s

/-- LH Rd, (Rs + signed byte offset) (43_load_store.md R242). -/
def laneLh (rd rs : Reg) (off : BitVec 12) (k : Nat) (s : State) : LaneOut :=
  loadLane 2 [] rd rs off k s

/-- A packet that holds this LH alone (log 1). -/
def execLh (p : Pred) (rd rs : Reg) (off : BitVec 12) (s : State) : Host.Outcome State Fault Refusal :=
  runAlone p false (laneLh rd rs off) s

/-- LW Rd, (Rs + signed byte offset) (43_load_store.md R243). -/
def laneLw (rd rs : Reg) (off : BitVec 12) (k : Nat) (s : State) : LaneOut :=
  loadLane 4 [] rd rs off k s

/-- A packet that holds this LW alone (log 1). -/
def execLw (p : Pred) (rd rs : Reg) (off : BitVec 12) (s : State) : Host.Outcome State Fault Refusal :=
  runAlone p false (laneLw rd rs off) s

/-- LL Rd, (Rs + signed byte offset) (43_load_store.md R244). -/
def laneLl (rd rs : Reg) (off : BitVec 12) (k : Nat) (s : State) : LaneOut :=
  loadLane 4 [.link true] rd rs off k s

/-- A packet that holds this LL alone (log 1). -/
def execLl (p : Pred) (rd rs : Reg) (off : BitVec 12) (s : State) : Host.Outcome State Fault Refusal :=
  runAlone p false (laneLl rd rs off) s

/-- SB Rt, (Rs + signed byte offset) (43_load_store.md R245). -/
def laneSb (rt rs : Reg) (off : BitVec 12) (k : Nat) (s : State) : LaneOut :=
  storeLane 1 [] rt rs off k s

/-- A packet that holds this SB alone (log 1). -/
def execSb (p : Pred) (rt rs : Reg) (off : BitVec 12) (s : State) : Host.Outcome State Fault Refusal :=
  runAlone p false (laneSb rt rs off) s

/-- SH Rt, (Rs + signed byte offset) (43_load_store.md R246). -/
def laneSh (rt rs : Reg) (off : BitVec 12) (k : Nat) (s : State) : LaneOut :=
  storeLane 2 [] rt rs off k s

/-- A packet that holds this SH alone (log 1). -/
def execSh (p : Pred) (rt rs : Reg) (off : BitVec 12) (s : State) : Host.Outcome State Fault Refusal :=
  runAlone p false (laneSh rt rs off) s

/-- SW Rt, (Rs + signed byte offset) (43_load_store.md R247). -/
def laneSw (rt rs : Reg) (off : BitVec 12) (k : Nat) (s : State) : LaneOut :=
  storeLane 4 [] rt rs off k s

/-- A packet that holds this SW alone (log 1). -/
def execSw (p : Pred) (rt rs : Reg) (off : BitVec 12) (s : State) : Host.Outcome State Fault Refusal :=
  runAlone p false (laneSw rt rs off) s

/-- SC Rt, (Rs + signed byte offset) (43_load_store.md R248). -/
def laneSc (rt rs : Reg) (off : BitVec 12) (k : Nat) (s : State) : LaneOut :=
  if s.link then storeLane 4 [.pred 0 true, .link false] rt rs off k s
  else .writes [.pred 0 false, .link false]

/-- A packet that holds this SC alone (log 1). -/
def execSc (p : Pred) (rt rs : Reg) (off : BitVec 12) (s : State) : Host.Outcome State Fault Refusal :=
  runAlone p false (laneSc rt rs off) s

end Sys2Proof.Machine
end

