-- ==== Sys2Proof/Machine/System.lean ====
section
/-! DEFINITION. The system instructions (46_system.md R300 to R309). ERET, MFC and MTC run in kernel mode only. -/
namespace Sys2Proof.Machine


/-- BREAK: raise the BREAK exception (46_system.md R301). -/
def laneBrk (_k : Nat) (_s : State) : LaneOut :=
  .raise .brk

/-- A packet that holds this BREAK alone (log 1). -/
def execBrk (p : Pred) (s : State) : Host.Outcome State Fault Refusal :=
  runAlone p false laneBrk s

/-- SYSCALL: raise the SYSCALL exception (46_system.md R302). -/
def laneSyscall (_k : Nat) (_s : State) : LaneOut :=
  .raise .syscall

/-- A packet that holds this SYSCALL alone (log 1). -/
def execSyscall (p : Pred) (s : State) : Host.Outcome State Fault Refusal :=
  runAlone p false laneSyscall s

/-- ERET: return to the state EPC names (46_system.md R305). -/
def laneEret (_k : Nat) (s : State) : LaneOut :=
  .writes (eretWrites s)

/-- A packet that holds this ERET alone (log 1). -/
def execEret (p : Pred) (s : State) : Host.Outcome State Fault Refusal :=
  runAlone p true laneEret s

/-- MFC: move coprocessor register n to Rd (46_system.md R307). -/
def laneMfc (rd : Reg) (n : CopNum) (_k : Nat) (s : State) : LaneOut :=
  match copOfNum n with
  | some c => .writes [.gpr rd (s.readCop c)]
  | none => .refused (.unassignedCoprocessor n)

/-- A packet that holds this MFC alone (log 1). -/
def execMfc (p : Pred) (rd : Reg) (n : CopNum) (s : State) : Host.Outcome State Fault Refusal :=
  runAlone p true (laneMfc rd n) s

/-- MTC: move Rs to coprocessor register n (46_system.md R309). -/
def laneMtc (n : CopNum) (rs : Reg) (_k : Nat) (s : State) : LaneOut :=
  match copOfNum n with
  | some c => .writes [.cop c (s.reg rs)]
  | none => .refused (.unassignedCoprocessor n)

/-- A packet that holds this MTC alone (log 1). -/
def execMtc (p : Pred) (n : CopNum) (rs : Reg) (s : State) : Host.Outcome State Fault Refusal :=
  runAlone p true (laneMtc n rs) s

end Sys2Proof.Machine
end

