-- ==== Sys2Proof/Machine/Dispatch.lean ====
section
/-! DEFINITION. The meaning of each instruction, one arm per constructor of Instr: the packet that holds it alone in
slot 0 (log 1). What it yields as one lane among others is Machine/Lane.lean. -/
namespace Sys2Proof.Machine

def exec (i : Instr) (s : State) : Host.Outcome State Fault Refusal :=
  match i with
  | .addShort p rd rs imm rot => Sys2Proof.Machine.execAddShort p rd rs imm rot s
  | .addReg p rd rs rt ty amt => Sys2Proof.Machine.execAddReg p rd rs rt ty amt s
  | .addLong p rd rs imm => Sys2Proof.Machine.execAddLong p rd rs imm s
  | .andShort p rd rs imm rot => Sys2Proof.Machine.execAndShort p rd rs imm rot s
  | .andReg p rd rs rt ty amt => Sys2Proof.Machine.execAndReg p rd rs rt ty amt s
  | .andLong p rd rs imm => Sys2Proof.Machine.execAndLong p rd rs imm s
  | .norShort p rd rs imm rot => Sys2Proof.Machine.execNorShort p rd rs imm rot s
  | .norReg p rd rs rt ty amt => Sys2Proof.Machine.execNorReg p rd rs rt ty amt s
  | .norLong p rd rs imm => Sys2Proof.Machine.execNorLong p rd rs imm s
  | .orShort p rd rs imm rot => Sys2Proof.Machine.execOrShort p rd rs imm rot s
  | .orReg p rd rs rt ty amt => Sys2Proof.Machine.execOrReg p rd rs rt ty amt s
  | .orLong p rd rs imm => Sys2Proof.Machine.execOrLong p rd rs imm s
  | .subShort p rd rs imm rot => Sys2Proof.Machine.execSubShort p rd rs imm rot s
  | .subReg p rd rs rt ty amt => Sys2Proof.Machine.execSubReg p rd rs rt ty amt s
  | .subLong p rd rs imm => Sys2Proof.Machine.execSubLong p rd rs imm s
  | .rsbShort p rd rs imm rot => Sys2Proof.Machine.execRsbShort p rd rs imm rot s
  | .rsbReg p rd rs rt ty amt => Sys2Proof.Machine.execRsbReg p rd rs rt ty amt s
  | .rsbLong p rd rs imm => Sys2Proof.Machine.execRsbLong p rd rs imm s
  | .xorShort p rd rs imm rot => Sys2Proof.Machine.execXorShort p rd rs imm rot s
  | .xorReg p rd rs rt ty amt => Sys2Proof.Machine.execXorReg p rd rs rt ty amt s
  | .xorLong p rd rs imm => Sys2Proof.Machine.execXorLong p rd rs imm s
  | .movShort p rd imm rot => Sys2Proof.Machine.execMovShort p rd imm rot s
  | .movReg p rd rt ty amt => Sys2Proof.Machine.execMovReg p rd rt ty amt s
  | .movRegsh p rd rt ty rs => Sys2Proof.Machine.execMovRegsh p rd rt ty rs s
  | .movLong p rd imm => Sys2Proof.Machine.execMovLong p rd imm s
  | .mvnShort p rd imm rot => Sys2Proof.Machine.execMvnShort p rd imm rot s
  | .mvnReg p rd rt ty amt => Sys2Proof.Machine.execMvnReg p rd rt ty amt s
  | .mvnRegsh p rd rt ty rs => Sys2Proof.Machine.execMvnRegsh p rd rt ty rs s
  | .mvnLong p rd imm => Sys2Proof.Machine.execMvnLong p rd imm s
  | .sxbShort p rd imm rot => Sys2Proof.Machine.execSxbShort p rd imm rot s
  | .sxbReg p rd rt ty amt => Sys2Proof.Machine.execSxbReg p rd rt ty amt s
  | .sxbRegsh p rd rt ty rs => Sys2Proof.Machine.execSxbRegsh p rd rt ty rs s
  | .sxbLong p rd imm => Sys2Proof.Machine.execSxbLong p rd imm s
  | .sxhShort p rd imm rot => Sys2Proof.Machine.execSxhShort p rd imm rot s
  | .sxhReg p rd rt ty amt => Sys2Proof.Machine.execSxhReg p rd rt ty amt s
  | .sxhRegsh p rd rt ty rs => Sys2Proof.Machine.execSxhRegsh p rd rt ty rs s
  | .sxhLong p rd imm => Sys2Proof.Machine.execSxhLong p rd imm s
  | .cmpltuShort p pd rs imm rot => Sys2Proof.Machine.execCmpltuShort p pd rs imm rot s
  | .cmpltuReg p pd rs rt ty amt => Sys2Proof.Machine.execCmpltuReg p pd rs rt ty amt s
  | .cmpltuLong p pd rs imm => Sys2Proof.Machine.execCmpltuLong p pd rs imm s
  | .cmpleuShort p pd rs imm rot => Sys2Proof.Machine.execCmpleuShort p pd rs imm rot s
  | .cmpleuReg p pd rs rt ty amt => Sys2Proof.Machine.execCmpleuReg p pd rs rt ty amt s
  | .cmpleuLong p pd rs imm => Sys2Proof.Machine.execCmpleuLong p pd rs imm s
  | .cmpeqShort p pd rs imm rot => Sys2Proof.Machine.execCmpeqShort p pd rs imm rot s
  | .cmpeqReg p pd rs rt ty amt => Sys2Proof.Machine.execCmpeqReg p pd rs rt ty amt s
  | .cmpeqLong p pd rs imm => Sys2Proof.Machine.execCmpeqLong p pd rs imm s
  | .cmpltsShort p pd rs imm rot => Sys2Proof.Machine.execCmpltsShort p pd rs imm rot s
  | .cmpltsReg p pd rs rt ty amt => Sys2Proof.Machine.execCmpltsReg p pd rs rt ty amt s
  | .cmpltsLong p pd rs imm => Sys2Proof.Machine.execCmpltsLong p pd rs imm s
  | .cmplesShort p pd rs imm rot => Sys2Proof.Machine.execCmplesShort p pd rs imm rot s
  | .cmplesReg p pd rs rt ty amt => Sys2Proof.Machine.execCmplesReg p pd rs rt ty amt s
  | .cmplesLong p pd rs imm => Sys2Proof.Machine.execCmplesLong p pd rs imm s
  | .cmpbsShort p pd rs imm rot => Sys2Proof.Machine.execCmpbsShort p pd rs imm rot s
  | .cmpbsReg p pd rs rt ty amt => Sys2Proof.Machine.execCmpbsReg p pd rs rt ty amt s
  | .cmpbsLong p pd rs imm => Sys2Proof.Machine.execCmpbsLong p pd rs imm s
  | .cmpbcShort p pd rs imm rot => Sys2Proof.Machine.execCmpbcShort p pd rs imm rot s
  | .cmpbcReg p pd rs rt ty amt => Sys2Proof.Machine.execCmpbcReg p pd rs rt ty amt s
  | .cmpbcLong p pd rs imm => Sys2Proof.Machine.execCmpbcLong p pd rs imm s
  | .lb p rd rs off => Sys2Proof.Machine.execLb p rd rs off s
  | .lh p rd rs off => Sys2Proof.Machine.execLh p rd rs off s
  | .lw p rd rs off => Sys2Proof.Machine.execLw p rd rs off s
  | .ll p rd rs off => Sys2Proof.Machine.execLl p rd rs off s
  | .sb p rt rs off => Sys2Proof.Machine.execSb p rt rs off s
  | .sh p rt rs off => Sys2Proof.Machine.execSh p rt rs off s
  | .sw p rt rs off => Sys2Proof.Machine.execSw p rt rs off s
  | .sc p rt rs off => Sys2Proof.Machine.execSc p rt rs off s
  | .bImm p off => Sys2Proof.Machine.execBImm p off s
  | .bReg p rs off => Sys2Proof.Machine.execBReg p rs off s
  | .blImm p off => Sys2Proof.Machine.execBlImm p off s
  | .blReg p rs off => Sys2Proof.Machine.execBlReg p rs off s
  | .brk p => Sys2Proof.Machine.execBrk p s
  | .syscall p => Sys2Proof.Machine.execSyscall p s
  | .fence p => Sys2Proof.Machine.execFence p s
  | .eret p => Sys2Proof.Machine.execEret p s
  | .flush p ty rs => Sys2Proof.Machine.execFlush p ty rs s
  | .mfc p rd n => Sys2Proof.Machine.execMfc p rd n s
  | .mtc p n rs => Sys2Proof.Machine.execMtc p n rs s
  | .mfhi p rd => Sys2Proof.Machine.execMfhi p rd s
  | .mthi p rs => Sys2Proof.Machine.execMthi p rs s
  | .mult p rd rs rt => Sys2Proof.Machine.execMult p rd rs rt s
  | .mults p rd rs rt => Sys2Proof.Machine.execMults p rd rs rt s
  | .div p rd rs rt => Sys2Proof.Machine.execDiv p rd rs rt s

end Sys2Proof.Machine
end

