-- ==== Sys2Proof/Machine/Lane.lean ====
section
/-! DEFINITION. What each instruction yields as a lane of a packet (40_packet_and_operands.md R163, R171). -/
namespace Sys2Proof.Machine

/-- The lane of an instruction whose predicate is true, by slot and state before the packet. -/
def laneOf (i : Instr) : Nat → State → LaneOut :=
  match i with
  | .addShort _ rd rs imm rot => laneAddShort rd rs imm rot
  | .addReg _ rd rs rt ty amt => laneAddReg rd rs rt ty amt
  | .addLong _ rd rs imm => laneAddLong rd rs imm
  | .andShort _ rd rs imm rot => laneAndShort rd rs imm rot
  | .andReg _ rd rs rt ty amt => laneAndReg rd rs rt ty amt
  | .andLong _ rd rs imm => laneAndLong rd rs imm
  | .norShort _ rd rs imm rot => laneNorShort rd rs imm rot
  | .norReg _ rd rs rt ty amt => laneNorReg rd rs rt ty amt
  | .norLong _ rd rs imm => laneNorLong rd rs imm
  | .orShort _ rd rs imm rot => laneOrShort rd rs imm rot
  | .orReg _ rd rs rt ty amt => laneOrReg rd rs rt ty amt
  | .orLong _ rd rs imm => laneOrLong rd rs imm
  | .subShort _ rd rs imm rot => laneSubShort rd rs imm rot
  | .subReg _ rd rs rt ty amt => laneSubReg rd rs rt ty amt
  | .subLong _ rd rs imm => laneSubLong rd rs imm
  | .rsbShort _ rd rs imm rot => laneRsbShort rd rs imm rot
  | .rsbReg _ rd rs rt ty amt => laneRsbReg rd rs rt ty amt
  | .rsbLong _ rd rs imm => laneRsbLong rd rs imm
  | .xorShort _ rd rs imm rot => laneXorShort rd rs imm rot
  | .xorReg _ rd rs rt ty amt => laneXorReg rd rs rt ty amt
  | .xorLong _ rd rs imm => laneXorLong rd rs imm
  | .movShort _ rd imm rot => laneMovShort rd imm rot
  | .movReg _ rd rt ty amt => laneMovReg rd rt ty amt
  | .movRegsh _ rd rt ty rs => laneMovRegsh rd rt ty rs
  | .movLong _ rd imm => laneMovLong rd imm
  | .mvnShort _ rd imm rot => laneMvnShort rd imm rot
  | .mvnReg _ rd rt ty amt => laneMvnReg rd rt ty amt
  | .mvnRegsh _ rd rt ty rs => laneMvnRegsh rd rt ty rs
  | .mvnLong _ rd imm => laneMvnLong rd imm
  | .sxbShort _ rd imm rot => laneSxbShort rd imm rot
  | .sxbReg _ rd rt ty amt => laneSxbReg rd rt ty amt
  | .sxbRegsh _ rd rt ty rs => laneSxbRegsh rd rt ty rs
  | .sxbLong _ rd imm => laneSxbLong rd imm
  | .sxhShort _ rd imm rot => laneSxhShort rd imm rot
  | .sxhReg _ rd rt ty amt => laneSxhReg rd rt ty amt
  | .sxhRegsh _ rd rt ty rs => laneSxhRegsh rd rt ty rs
  | .sxhLong _ rd imm => laneSxhLong rd imm
  | .cmpltuShort _ pd rs imm rot => laneCmpltuShort pd rs imm rot
  | .cmpltuReg _ pd rs rt ty amt => laneCmpltuReg pd rs rt ty amt
  | .cmpltuLong _ pd rs imm => laneCmpltuLong pd rs imm
  | .cmpleuShort _ pd rs imm rot => laneCmpleuShort pd rs imm rot
  | .cmpleuReg _ pd rs rt ty amt => laneCmpleuReg pd rs rt ty amt
  | .cmpleuLong _ pd rs imm => laneCmpleuLong pd rs imm
  | .cmpeqShort _ pd rs imm rot => laneCmpeqShort pd rs imm rot
  | .cmpeqReg _ pd rs rt ty amt => laneCmpeqReg pd rs rt ty amt
  | .cmpeqLong _ pd rs imm => laneCmpeqLong pd rs imm
  | .cmpltsShort _ pd rs imm rot => laneCmpltsShort pd rs imm rot
  | .cmpltsReg _ pd rs rt ty amt => laneCmpltsReg pd rs rt ty amt
  | .cmpltsLong _ pd rs imm => laneCmpltsLong pd rs imm
  | .cmplesShort _ pd rs imm rot => laneCmplesShort pd rs imm rot
  | .cmplesReg _ pd rs rt ty amt => laneCmplesReg pd rs rt ty amt
  | .cmplesLong _ pd rs imm => laneCmplesLong pd rs imm
  | .cmpbsShort _ pd rs imm rot => laneCmpbsShort pd rs imm rot
  | .cmpbsReg _ pd rs rt ty amt => laneCmpbsReg pd rs rt ty amt
  | .cmpbsLong _ pd rs imm => laneCmpbsLong pd rs imm
  | .cmpbcShort _ pd rs imm rot => laneCmpbcShort pd rs imm rot
  | .cmpbcReg _ pd rs rt ty amt => laneCmpbcReg pd rs rt ty amt
  | .cmpbcLong _ pd rs imm => laneCmpbcLong pd rs imm
  | .lb _ rd rs off => laneLb rd rs off
  | .lh _ rd rs off => laneLh rd rs off
  | .lw _ rd rs off => laneLw rd rs off
  | .ll _ rd rs off => laneLl rd rs off
  | .sb _ rt rs off => laneSb rt rs off
  | .sh _ rt rs off => laneSh rt rs off
  | .sw _ rt rs off => laneSw rt rs off
  | .sc _ rt rs off => laneSc rt rs off
  | .bImm _ off => laneBImm off
  | .bReg _ rs off => laneBReg rs off
  | .blImm _ off => laneBlImm off
  | .blReg _ rs off => laneBlReg rs off
  | .brk _ => laneBrk
  | .syscall _ => laneSyscall
  | .fence _ => laneFence
  | .eret _ => laneEret
  | .flush _ ty rs => laneFlush ty rs
  | .mfc _ rd n => laneMfc rd n
  | .mtc _ n rs => laneMtc n rs
  | .mfhi _ rd => laneMfhi rd
  | .mthi _ rs => laneMthi rs
  | .mult _ rd rs rt => laneMult rd rs rt
  | .mults _ rd rs rt => laneMults rd rs rt
  | .div _ rd rs rt => laneDiv rd rs rt

end Sys2Proof.Machine
end

