-- ==== Sys2Proof/Machine/Packet.lean ====
section
/-! DEFINITION. A packet of four slots: their classification, their legality, the destinations they name, and the
execution of the packet (40_packet_and_operands.md R160 to R174). -/
namespace Sys2Proof.Machine

/-- What stands in a slot (40_packet_and_operands.md R164, R167). -/
inductive Slot where
  /-- The constant of the long form before it; never decoded. -/
  | operand
  /-- A word that is no defined encoding. -/
  | undefined
  /-- An instruction. -/
  | instr (i : Instr)
deriving DecidableEq, Repr

/-- A word decoded as an instruction, with the word of the next slot. -/
def slotOf (w next : Word) : Slot :=
  match decodeWord w next with
  | .ok i => .instr i
  | .error _ => .undefined

/-- The slots of four words: the slot after a long form is its constant, whether or not the form has a defined opcode
(40_packet_and_operands.md R164). A long form in slot 3 has no constant; it is illegal there. -/
def classify (w0 w1 w2 w3 : Word) : List Slot :=
  let l0 := isLong w0
  let l1 := !l0 && isLong w1
  let l2 := !l1 && isLong w2
  [slotOf w0 w1, if l0 then .operand else slotOf w1 w2, if l1 then .operand else slotOf w2 w3,
   if l2 then .operand else slotOf w3 0#32]

/-- The decoded instructions of the slots from slot `k` on, each with its slot. -/
def lanesFrom : Nat → List Slot → List (Nat × Instr)
  | _, [] => []
  | k, .instr i :: ss => (k, i) :: lanesFrom (k + 1) ss
  | k, .operand :: ss => lanesFrom (k + 1) ss
  | k, .undefined :: ss => lanesFrom (k + 1) ss

/-- The decoded instructions that name destination `d`, with a true predicate and legal in their slot: the lanes of the
first row of 40_packet_and_operands.md R168. -/
def executingNamers {α : Type} [DecidableEq α] (dest : Instr → Option α) (d : α) (ls : List (Nat × Instr)) (s : State) :
    List (Nat × Instr) :=
  ls.filter fun l => dest l.2 == some d && (s.holds l.2.pred && l.2.allowedIn l.1)

/-- Two or more instructions name destination `d` and at most one has a true predicate: the second row of
40_packet_and_operands.md R168. -/
def undecided {α : Type} [DecidableEq α] (dest : Instr → Option α) (d : α) (ls : List (Nat × Instr)) (s : State) : Bool :=
  let namers := ls.filter fun l => dest l.2 == some d
  decide (2 ≤ namers.length) && decide ((namers.filter fun l => s.holds l.2.pred).length ≤ 1)

/-- The general register or the predicate register P0 to P2 that `i` names is written by two executing instructions
(40_packet_and_operands.md R168, first row). -/
def duplicateDest (ls : List (Nat × Instr)) (s : State) (i : Instr) : Bool :=
  (match i.gprDest with
    | some r => decide (2 ≤ (executingNamers Instr.gprDest r ls s).length)
    | none => false) ||
  (match i.predDest with
    | some n => n != 3 && decide (2 ≤ (executingNamers Instr.predDest n ls s).length)
    | none => false)

/-- A destination of `i` is undecided, or is P3 and has another namer (40_packet_and_operands.md R168, second and third
row). -/
def undecidedDest (ls : List (Nat × Instr)) (s : State) (i : Instr) : Bool :=
  (match i.gprDest with
    | some r => undecided Instr.gprDest r ls s
    | none => false) ||
  (match i.predDest with
    | some n =>
      if n = 3 then decide (2 ≤ (ls.filter fun l => l.2.predDest == some 3).length)
      else undecided Instr.predDest n ls s
    | none => false)

/-- The instruction sets the link bit. -/
def Form.setsLink : Form → Bool
  | .load .llOp _ _ _ _ => true
  | _ => false

/-- The instruction clears the link bit. -/
def Form.clearsLink : Form → Bool
  | .store .scOp _ _ _ _ => true
  | .ctl .eretOp _ => true
  | _ => false

/-- An LL beside an SC or ERET, all with true predicates (40_packet_and_operands.md R168, fifth row; log 22). -/
def linkConflict (ls : List (Nat × Instr)) (s : State) : Bool :=
  (ls.any fun l => Form.setsLink l.2.form && s.holds l.2.pred) && (ls.any fun l => Form.clearsLink l.2.form && s.holds l.2.pred)

/-- The packets that 40_packet_and_operands.md R168 marks refused (U1, U2; log 21). -/
def packetRefusal (ls : List (Nat × Instr)) (s : State) : Option Refusal :=
  if ls.any fun l => undecidedDest ls s l.2 then some .undecidedDestination
  else if linkConflict ls s then some .linkConflict
  else none

/-- What slot `k` yields: nothing for a constant, Illegal Instruction for an undefined word or a misplaced instruction
whatever its predicate, else what the instruction yields (40_packet_and_operands.md R164, R167, R170). -/
def runSlot (ls : List (Nat × Instr)) (s : State) (k : Nat) : Slot → LaneOut
  | .operand => .idle
  | .undefined => .raise .illegalInstruction
  | .instr i =>
    if i.allowedIn k then guardLane i.pred i.kernelOnly (duplicateDest ls s i) (laneOf i k) s
    else .raise .illegalInstruction

/-- What the slots from slot `k` on yield. -/
def runSlots (ls : List (Nat × Instr)) (s : State) : Nat → List Slot → List LaneOut
  | _, [] => []
  | k, x :: xs => runSlot ls s k x :: runSlots ls s (k + 1) xs

/-- Execute a packet: all lanes read the state before it (40_packet_and_operands.md R163, R171). -/
def runPacket (slots : List Slot) (s : State) : Host.Outcome State Fault Refusal :=
  match packetRefusal (lanesFrom 0 slots) s with
  | some r => .refused r
  | none => finish (runSlots (lanesFrom 0 slots) s 0 slots) s

end Sys2Proof.Machine
end

