-- ==== Sys2Proof/Machine/Fetch.lean ====
section
/-! DEFINITION. What a step does before a packet runs: the interrupt it may take (60_exceptions.md R333) and the fetch of
the packet (40_packet_and_operands.md R161); and how a packet is placed where the next step fetches it. -/
namespace Sys2Proof.Machine

/-- The pending code that is taken: the lowest (60_exceptions.md R333). -/
def lowestIrq (pending : List Irq) : Option Irq :=
  if pending.contains .timer then some .timer
  else if pending.contains .usb then some .usb
  else if pending.contains .framebuffer then some .framebuffer
  else if pending.contains .sdCard then some .sdCard
  else none

/-- The codes of a set given by bits, bit k for code k (60_exceptions.md R331). -/
def irqsOfBits (b : BitVec 4) : List Irq := [.timer, .usb, .framebuffer, .sdCard].filter fun c => b.getLsbD c.bits.toNat

/-- What IrqSource reports at this packet boundary (60_exceptions.md R333, R334; log 7). -/
def State.pendingIrqs (s : State) : List Irq :=
  match s.irqs, s.irqsThen with
  | pending :: _, _ => pending
  | [], .never => []
  | [], .source => irqsOfBits (Config.irqSource s.tick)

/-- The interrupt that this packet boundary takes, if any (60_exceptions.md R333). -/
def State.takenIrq (s : State) : Option Irq := if s.ie then lowestIrq s.pendingIrqs else none

/-- The requests of this packet boundary are over; those of the next one come next (60_exceptions.md R334; log 7). -/
def State.passBoundary (s : State) : State := { s with irqs := s.irqs.tail }

/-- Take an interrupt (60_exceptions.md R333, R340). -/
def takeInterrupt (c : Irq) (s : State) : State := trapEntry (some ⟨.interrupt, none⟩) none none none c.bits s

/-- The instruction TLB takes up what the fetch's translation found (20_memory.md R88). -/
def State.fillFetch (s : State) (fills : List TlbEntry) : State := { s with itlb := fillTlb s.itlb fills }

/-- A fetch that fails: the code goes to EC0, no error address is written (60_exceptions.md R338). -/
def fetchFault (c : ExcCode) (s : State) : State := trapEntry (some ⟨c, none⟩) none none none 0b00#2 s

/-- The slots of the packet at a physical address (40_packet_and_operands.md R161, R164). -/
def State.packetAt (s : State) (pa : Nat) : Option (List Slot) :=
  match s.fetchWord pa, s.fetchWord (pa + 4), s.fetchWord (pa + 8), s.fetchWord (pa + 12) with
  | some w0, some w1, some w2, some w3 => some (classify w0 w1 w2 w3)
  | _, _, _, _ => none

/-- Fetch the packet at the pc and execute it (40_packet_and_operands.md R160, R161). -/
def fetchAndRun (s : State) : Host.Outcome State Fault Refusal :=
  match s.translate 0 .fetch s.pc with
  | .unwritten a => .fault (.unwrittenMemory a)
  | .pageFault fills => .next (fetchFault .pageFaultFetch (s.fillFetch fills))
  | .invalidPhysical fills => .next (fetchFault .invalidPhysical (s.fillFetch fills))
  | .ok pa fills =>
    match s.packetAt pa with
    | some slots => runPacket slots (s.fillFetch fills)
    | none => .fault (.unwrittenMemory pa)

/-! ## Placing a packet (log 5) -/

/-- The word of `!P3 -> MOV Rk, #0`, which never executes. -/
def fillerWord (k : Nat) : Word := 0xE0002000#32 + BitVec.ofNat 32 (32 * k)

/-- The register the filler of slot `k` names, different from the destination of the instruction in slot 0. -/
def fillerReg (dest : Option Reg) (k : Nat) : Nat := if dest.map (·.val) = some k then k + 3 else k

/-- A packet with the given words in slot 0, and in slot 1 if the first is a long form; the other slots never execute. -/
def packetAround (w0 w1 : Word) : List Word :=
  let dest := match decodeWord w0 w1 with
    | .ok i => i.gprDest
    | .error _ => none
  [w0, if isLong w0 then w1 else fillerWord (fillerReg dest 1), fillerWord (fillerReg dest 2), fillerWord (fillerReg dest 3)]

/-- Store bytes so that the data view, the L2 view and the instruction cache all hold them. -/
def State.placeBytes (s : State) : Nat → List Byte → State
  | _, [] => s
  | a, b :: bs =>
    State.placeBytes { s with
      mem := Memory.write s.mem a b
      l2old := s.l2old.filter (fun o => o.1 != a)
      il1old := s.il1old.filter (fun o => o.1 != a) } (a + 1) bs

/-- No interrupt is pending at this packet boundary. -/
def State.quiet (s : State) : State := if s.takenIrq.isSome then { s with irqs := [] :: s.irqs.tail } else s

/-- The physical address where the next step fetches a packet, if RAM stands at all of its 16 bytes. -/
def State.fetchPlace (s : State) : Option Nat :=
  match s.translate 0 .fetch s.pc with
  | .ok pa _ => if (List.range 16).all (fun k => s.isRam (pa + k)) then some pa else none
  | .pageFault _ => none
  | .invalidPhysical _ => none
  | .unwritten _ => none

/-- The state with a packet's words where its next step fetches: at the translated pc, or, if no RAM is there, with
paging off and the default PhysMap at the pc brought into memory and onto a packet boundary. -/
def State.placePacket (s : State) (ws : List Word) : State :=
  match s.fetchPlace with
  | some pa => s.quiet.placeBytes pa (ws.flatMap bytesOfWord)
  | none =>
    let pc := s.pc &&& 0x1FFFFFF0#32
    { s.quiet with pe := false, pc := pc, physMap := PhysMap.default }.placeBytes pc.toNat (ws.flatMap bytesOfWord)

end Sys2Proof.Machine
end

