-- ==== Sys2Proof/Machine/Step.lean ====
section
/-! DEFINITION. One step of the machine: one interrupt taken, or one packet (40_packet_and_operands.md R160, R171). -/
namespace Sys2Proof.Machine

/-- Step(): take a pending interrupt if interrupts are enabled, else fetch and execute the packet at the pc. -/
def step (s : State) : Host.Outcome State Fault Refusal :=
  match s.takenIrq with
  | some c => .next (takeInterrupt c s.passBoundary)
  | none => fetchAndRun s.passBoundary

/-- The state with one instruction placed as slot 0 of the packet that the next step fetches; the slots after it hold
instructions that never execute (log 5). -/
def State.withFetchWord (s : State) (nbits w : Nat) : State :=
  s.placePacket (packetAround (BitVec.ofNat 32 (w % 2 ^ nbits)) (BitVec.ofNat 32 (w % 2 ^ nbits / 2 ^ 32)))

end Sys2Proof.Machine
end

