-- ==== Sys2Proof/WellFormed.lean ====
section
/-! DEFINITION. Well-formedness: of an instruction, what its field types do not already say (a coprocessor number is
one of the fourteen assigned ones), and of a packet, the construction constraints of 70_reset_and_hazards.md R382. -/
namespace Sys2Proof

/-- The fourteen assigned coprocessor numbers (10_state.md R31, R47). -/
def copAssigned (n : CopNum) : Bool := n.val < 10 || (16 ≤ n.val && n.val < 20)

/-- A Control instruction names an assigned coprocessor register. -/
def CtlOp.wellFormed : CtlOp → Bool
  | .mfcOp _ n => copAssigned n
  | .mtcOp n _ => copAssigned n
  | .brkOp => true
  | .syscallOp => true
  | .fenceOp => true
  | .eretOp => true
  | .flushOp .. => true
  | .mfhiOp _ => true
  | .mthiOp _ => true
  | .multOp .. => true
  | .multsOp .. => true
  | .divOp .. => true

/-- A family form is well formed. -/
def Form.wellFormed : Form → Bool
  | .ctl c _ => c.wellFormed
  | .alu2 .. => true
  | .alu1 .. => true
  | .cmp .. => true
  | .load .. => true
  | .store .. => true
  | .branch .. => true

/-- An instruction is well formed. -/
def Instr.wellFormed (i : Instr) : Bool := i.form.wellFormed

/-- The instructions of the slots from slot `k` on are each allowed in their slot; the slot after a long form holds no
instruction (`none`). -/
def slotsWellPlaced : Nat → List (Option Instr) → Bool
  | _, [] => true
  | k, none :: is => slotsWellPlaced (k + 1) is
  | k, some i :: is =>
    i.wellFormed && i.allowedIn k && (!i.long || (is.head? == some none)) && slotsWellPlaced (k + 1) is

/-- Two instructions name no common destination (70_reset_and_hazards.md R382). -/
def Instr.disjointDest (i j : Instr) : Bool :=
  (i.gprDest == none || i.gprDest != j.gprDest) && (i.predDest == none || i.predDest != j.predDest)

/-- No two instructions of a packet name a common destination. -/
def destsDistinct : List (Option Instr) → Bool
  | [] => true
  | none :: is => destsDistinct is
  | some i :: is => is.all (fun j => match j with | some j => i.disjointDest j | none => true) && destsDistinct is

/-- A packet is well formed: four slots, well placed, with distinct destinations (70_reset_and_hazards.md R382). -/
def packetWellFormed (is : List (Option Instr)) : Bool :=
  is.length == 4 && slotsWellPlaced 0 is && destsDistinct is

end Sys2Proof
end

