-- ==== Sys2Proof/Safety.lean ====
section
/-! DEFINITION. What holds of every state the machine can be in, and what counts as a safe run. -/
namespace Sys2Proof.Machine

/-- Every listed byte stands at a physical address that is RAM (20_memory.md R73, R74). -/
def State.memInRam (s : State) : Bool := s.mem.all fun c => s.isRam c.1

/-- The invariant of the machine: the pc is a packet address (10_state.md R23), and memory is in its canonical form and
lists only addresses that are RAM (20_memory.md R73, R74). -/
def State.inv (s : State) : Bool := (s.pc.extractLsb' 0 4 == 0#4) && Memory.wf s.mem && s.memInRam

/-- A step that has a next state: neither a fault nor a refusal. -/
def isNext : Host.Outcome State Fault Refusal → Bool
  | .next _ => true
  | .fault _ => false
  | .refused _ => false

/-- A run of `n` steps from `s` stops nowhere. -/
def safeFor (n : Nat) (s : State) : Bool := isNext (Sys2Proof.core.run n s)

/-- Runs from `s` never stop. -/
def State.safe (s : State) : Prop := ∀ n, safeFor n s = true

/-! ## Terms that claims about one packet use -/

/-- The state after a packet that does nothing: the pc has advanced (10_state.md R25). -/
def State.advance (s : State) : State := { s with pc := s.pc + 16#32, tick := s.tick + 1 }

/-- The state after a packet that writes one general register if its predicate holds. -/
def State.afterGpr (s : State) (p : Pred) (rd : Reg) (v : Word) : State :=
  if s.holds p then { s.advance with regs := s.regs.set rd v } else s.advance

/-- The state after a packet that writes one predicate register if its predicate holds; P3 takes no value. -/
def State.afterPred (s : State) (p : Pred) (pd : PredReg) (b : Bool) : State :=
  if s.holds p then
    { s.advance with p0 := if pd = 0 then b else s.p0, p1 := if pd = 1 then b else s.p1, p2 := if pd = 2 then b else s.p2 }
  else s.advance

/-- The state after a packet that writes one coprocessor-side update `f` if its predicate holds. -/
def State.afterIf (s : State) (p : Pred) (f : State → State) : State := if s.holds p then f s.advance else s.advance

/-- The state after the trap of a packet whose slot 0 raises `c` without an address and whose other slots raise nothing. -/
def State.afterTrap (s : State) (c : ExcCode) : State := trapEntry (some ⟨c, none⟩) none none none 0b00#2 s

/-- The data TLB has taken up some entries. -/
def State.withFills (s : State) (fills : List TlbEntry) : State := { s with dtlb := fillTlb s.dtlb fills }

/-- The error cause register of a lane. -/
def State.ec (s : State) (k : Nat) : Word :=
  match k with
  | 0 => s.ec0
  | 1 => s.ec1
  | 2 => s.ec2
  | _ => s.ec3

/-- EXNTYPE of an error cause register (10_state.md R44). -/
def exnType (w : Word) : BitVec 5 := w.extractLsb' 1 5

/-- INT of an error cause register (10_state.md R44). -/
def intField (w : Word) : BitVec 2 := w.extractLsb' 6 2

/-- No general register, predicate, ovf, PFLAGS.PE, PTB, EHA or scratchpad differs: what a trap leaves alone apart from
memory and the TLBs (60_exceptions.md R340). -/
def sameProgramState (s t : State) : Prop :=
  t.regs = s.regs ∧ t.p0 = s.p0 ∧ t.p1 = s.p1 ∧ t.p2 = s.p2 ∧ t.ovf = s.ovf ∧ t.pe = s.pe ∧ t.ptb = s.ptb ∧
    t.eha = s.eha ∧ t.sp0 = s.sp0 ∧ t.sp1 = s.sp1 ∧ t.sp2 = s.sp2 ∧ t.sp3 = s.sp3

/-- Trap entry has been made from `s`: what every cause has in common (60_exceptions.md R340). -/
def trapped (s t : State) : Prop :=
  t.mode = .kernel ∧ t.ie = false ∧ t.link = false ∧ t.pc = s.eha &&& 0xFFFFFFF0#32 ∧ t.epc = s.epcImage ∧
    sameProgramState s t

/-- A step that runs no packet leaves memory, what the caches may hold, the data TLB and PhysMap as they were, and takes
this packet boundary's requests off IrqSource (log 7). -/
def sameOutsideFetch (s t : State) : Prop :=
  t.mem = s.mem ∧ t.l2old = s.l2old ∧ t.il1old = s.il1old ∧ t.dtlb = s.dtlb ∧ t.physMap = s.physMap ∧
    t.irqs = s.irqs.tail ∧ t.irqsThen = s.irqsThen

/-- The instruction of a slot, if it holds one. -/
def slotInstr : Slot → Option Instr
  | .instr i => some i
  | .operand => none
  | .undefined => none

/-- `i` stands in slot `k` of a well-formed packet whose other instructions all have false predicates. -/
def soleIn (k : Nat) (i : Instr) (slots : List Slot) (s : State) : Prop :=
  slots.length = 4 ∧ slots[k]? = some (.instr i) ∧ Slot.undefined ∉ slots ∧
    packetWellFormed (slots.map slotInstr) = true ∧
    ∀ (j : Nat) (x : Instr), j ≠ k → slots[j]? = some (.instr x) → s.holds x.pred = false

/-- Two instructions of a packet name destination `d`. -/
def namedTwice {α : Type} (dest : Instr → Option α) (d : α) (slots : List Slot) : Prop :=
  ∃ (j k : Nat) (a b : Instr), j < k ∧ slots[j]? = some (.instr a) ∧ slots[k]? = some (.instr b) ∧ dest a = some d ∧ dest b = some d

/-- Of the instructions of a packet that name destination `d`, at most one has a true predicate. -/
def oneWriterAtMost {α : Type} (dest : Instr → Option α) (d : α) (slots : List Slot) (s : State) : Prop :=
  ∀ (j k : Nat) (a b : Instr), j < k → slots[j]? = some (.instr a) → slots[k]? = some (.instr b) → dest a = some d → dest b = some d →
    s.holds a.pred = false ∨ s.holds b.pred = false

/-- The packet holds `i`, and its predicate is true. -/
def executes (slots : List Slot) (s : State) (i : Instr) : Prop := .instr i ∈ slots ∧ s.holds i.pred = true

/-- Some lane of the packet queues a store that covers the byte at `a`. -/
def storesTo (slots : List Slot) (s : State) (a : Nat) : Prop :=
  ∃ (k : Nat) (x : Slot) (pa n : Nat) (v : Word), slots[k]? = some x ∧
    .store pa n v ∈ (runSlot (lanesFrom 0 slots) s k x).queue ∧ pa ≤ a ∧ a < pa + n

/-- Some lane's translation gives the data TLB the entry `e` (20_memory.md R88). -/
def translates (slots : List Slot) (s : State) (e : TlbEntry) : Prop :=
  ∃ (k : Nat) (x : Slot), slots[k]? = some x ∧ e ∈ (runSlot (lanesFrom 0 slots) s k x).fills

/-- No lane of the packet raises an exception. -/
def raisesNothing (slots : List Slot) (s : State) : Prop :=
  ∀ (k : Nat) (x : Slot), slots[k]? = some x → (runSlot (lanesFrom 0 slots) s k x).exc = none

/-- A write that a packet queued in state `s` shows in state `t` (00_scope.md R10). -/
def Write.doneIn (s t : State) : Write → Prop
  | .gpr r v => t.reg r = v
  | .pred n b => n = 3 ∨ t.predReg n = b
  | .ovf v => t.ovf = v
  | .link b => t.link = b
  | .cop c v => t.readCop c = if c = .pflags then v &&& 3#32 else v
  | .mode m => t.mode = m
  | .ie b => t.ie = b
  | .pc v => t.pc = v
  | .store pa n v => ∀ q, pa ≤ q → q < pa + n → s.isRam q = true →
      Memory.read t.mem q = some ((v >>> (8 * (q - pa))).setWidth 8)
  | .flushData pa => ∀ o, o ∈ t.l2old → sameLine o.1 pa = true → o.2 = Memory.read s.mem o.1
  | .flushInst pa => ∀ o, o ∈ t.il1old → sameLine o.1 pa = false
  | .flushDtlb va => ∀ e, e ∈ t.dtlb → e.vpn ≠ va.extractLsb' 12 20
  | .flushItlb va => ∀ e, e ∈ t.itlb → e.vpn ≠ va.extractLsb' 12 20

/-- The instruction stores to memory. -/
def Form.isStore : Form → Bool
  | .store .. => true
  | _ => false

/-- The instruction writes ovf: MULT, MULTS, DIV and MTHI (10_state.md R28). -/
def Form.writesOvf : Form → Bool
  | .ctl (.multOp ..) _ => true
  | .ctl (.multsOp ..) _ => true
  | .ctl (.divOp ..) _ => true
  | .ctl (.mthiOp _) _ => true
  | _ => false

/-- The instruction is a branch or ERET, which redirect the pc (10_state.md R25). -/
def Form.redirects : Form → Bool
  | .branch .. => true
  | .ctl .eretOp _ => true
  | _ => false

end Sys2Proof.Machine
end

