-- ==== Sys2Proof/Certificates/Slice0/Obligations.lean ====
section
/-! DEFINITION. The statements to be proved about the machine. Each docstring names the rule of spec/ it formalises, or
the decision or log entry it rests on. -/
open Sys2Proof Sys2Proof.Machine

/-! ## Encoding -/

/-- Decoding the bytes of an encoded instruction gives it back and leaves the bytes after it, for every instruction and
every operand value; for MFHI and MTHI whatever admissible codes they have (log 9). -/
def Obligations.DecodeOfEncodeIsIdentity : Prop :=
  ∀ (i : Instr) (rest : List Byte), decodeBytes ((encode i).flatMap bytesOfWord ++ rest) = .ok (i, rest)

/-- Every word of every row of 30_encoding.md R138, told by the row's mask and match, decodes to the row's instruction with
the row's fields, whatever its other bits are: the bits printed X are ignored (R145, decision D25; for MFHI and MTHI with
the codes they have, R135, log 9). `next` is the word of the next slot, the constant of a long form. -/
def Obligations.TableRowsDecodeByMaskAndMatch : Prop :=
  ∀ (w next : Word),
    let p : Pred := ⟨(w.extractLsb' 30 2).toFin, w.getLsbD 29⟩
    let rd : Reg := (w.extractLsb' 5 5).toFin
    let rs : Reg := (w.extractLsb' 0 5).toFin
    let rt : Reg := (w.extractLsb' 14 5).toFin
    let pd : PredReg := (w.extractLsb' 5 2).toFin
    let imm10 : BitVec 10 := w.extractLsb' 18 10
    let imm15 : BitVec 15 := w.extractLsb' 0 5 ++ w.extractLsb' 18 10
    let rot : BitVec 4 := w.extractLsb' 14 4
    let amt : BitVec 5 := w.extractLsb' 21 5
    let ty : ShiftType :=
      if w.getLsbD 20 then (if w.getLsbD 19 then .ror else .asr) else (if w.getLsbD 19 then .lsr else .lsl)
    let flush : FlushType :=
      if w.getLsbD 11 then (if w.getLsbD 10 then .itlb else .dtlb) else (if w.getLsbD 10 then .inst else .data)
    let offL : BitVec 12 := w.extractLsb' 13 12
    let offS : BitVec 12 := w.extractLsb' 19 6 ++ w.extractLsb' 13 1 ++ w.extractLsb' 5 5
    let off25 : BitVec 25 := w.extractLsb' 0 25
    let off20 : BitVec 20 := w.extractLsb' 5 20
    let row (mask pattern : Word) (i : Instr) : Prop := w &&& mask = pattern → decodeWord w next = .ok i
    (row 0x10003C00#32 0x00000000#32 (.addShort p rd rs imm10 rot) ∧
      row 0x10003C00#32 0x00000400#32 (.andShort p rd rs imm10 rot) ∧
      row 0x10003C00#32 0x00000800#32 (.norShort p rd rs imm10 rot) ∧
      row 0x10003C00#32 0x00000C00#32 (.orShort p rd rs imm10 rot) ∧
      row 0x10003C00#32 0x00001000#32 (.subShort p rd rs imm10 rot) ∧
      row 0x10003C00#32 0x00001400#32 (.rsbShort p rd rs imm10 rot) ∧
      row 0x10003C00#32 0x00001800#32 (.xorShort p rd rs imm10 rot) ∧
      row 0x10003C00#32 0x00002000#32 (.movShort p rd imm15 rot) ∧
      row 0x10003C00#32 0x00002400#32 (.mvnShort p rd imm15 rot) ∧
      row 0x10003C00#32 0x00002800#32 (.sxbShort p rd imm15 rot) ∧
      row 0x10003C00#32 0x00002C00#32 (.sxhShort p rd imm15 rot) ∧
      row 0x10003F80#32 0x00001C00#32 (.cmpltuShort p pd rs imm10 rot) ∧
      row 0x10003F80#32 0x00001C80#32 (.cmpleuShort p pd rs imm10 rot) ∧
      row 0x10003F80#32 0x00001D00#32 (.cmpeqShort p pd rs imm10 rot) ∧
      row 0x10003F80#32 0x00001E00#32 (.cmpltsShort p pd rs imm10 rot) ∧
      row 0x10003F80#32 0x00001E80#32 (.cmplesShort p pd rs imm10 rot) ∧
      row 0x10003F80#32 0x00001F00#32 (.cmpbsShort p pd rs imm10 rot) ∧
      row 0x10003F80#32 0x00001F80#32 (.cmpbcShort p pd rs imm10 rot)) ∧
    (row 0x1C003C00#32 0x14000000#32 (.addReg p rd rs rt ty amt) ∧
      row 0x1C003C00#32 0x14000400#32 (.andReg p rd rs rt ty amt) ∧
      row 0x1C003C00#32 0x14000800#32 (.norReg p rd rs rt ty amt) ∧
      row 0x1C003C00#32 0x14000C00#32 (.orReg p rd rs rt ty amt) ∧
      row 0x1C003C00#32 0x14001000#32 (.subReg p rd rs rt ty amt) ∧
      row 0x1C003C00#32 0x14001400#32 (.rsbReg p rd rs rt ty amt) ∧
      row 0x1C003C00#32 0x14001800#32 (.xorReg p rd rs rt ty amt) ∧
      row 0x1C003C00#32 0x14002000#32 (.movReg p rd rt ty amt) ∧
      row 0x1FE03C00#32 0x10202000#32 (.movRegsh p rd rt ty rs) ∧
      row 0x1C003C00#32 0x14002400#32 (.mvnReg p rd rt ty amt) ∧
      row 0x1FE03C00#32 0x10202400#32 (.mvnRegsh p rd rt ty rs) ∧
      row 0x1C003C00#32 0x14002800#32 (.sxbReg p rd rt ty amt) ∧
      row 0x1FE03C00#32 0x10202800#32 (.sxbRegsh p rd rt ty rs) ∧
      row 0x1C003C00#32 0x14002C00#32 (.sxhReg p rd rt ty amt) ∧
      row 0x1FE03C00#32 0x10202C00#32 (.sxhRegsh p rd rt ty rs) ∧
      row 0x1C003F80#32 0x14001C00#32 (.cmpltuReg p pd rs rt ty amt) ∧
      row 0x1C003F80#32 0x14001C80#32 (.cmpleuReg p pd rs rt ty amt) ∧
      row 0x1C003F80#32 0x14001D00#32 (.cmpeqReg p pd rs rt ty amt) ∧
      row 0x1C003F80#32 0x14001E00#32 (.cmpltsReg p pd rs rt ty amt) ∧
      row 0x1C003F80#32 0x14001E80#32 (.cmplesReg p pd rs rt ty amt) ∧
      row 0x1C003F80#32 0x14001F00#32 (.cmpbsReg p pd rs rt ty amt) ∧
      row 0x1C003F80#32 0x14001F80#32 (.cmpbcReg p pd rs rt ty amt)) ∧
    (row 0x1FFFFC00#32 0x10000000#32 (.addLong p rd rs next) ∧
      row 0x1FFFFC00#32 0x10000400#32 (.andLong p rd rs next) ∧
      row 0x1FFFFC00#32 0x10000800#32 (.norLong p rd rs next) ∧
      row 0x1FFFFC00#32 0x10000C00#32 (.orLong p rd rs next) ∧
      row 0x1FFFFC00#32 0x10001000#32 (.subLong p rd rs next) ∧
      row 0x1FFFFC00#32 0x10001400#32 (.rsbLong p rd rs next) ∧
      row 0x1FFFFC00#32 0x10001800#32 (.xorLong p rd rs next) ∧
      row 0x1FFFFC00#32 0x10002000#32 (.movLong p rd next) ∧
      row 0x1FFFFC00#32 0x10002400#32 (.mvnLong p rd next) ∧
      row 0x1FFFFC00#32 0x10002800#32 (.sxbLong p rd next) ∧
      row 0x1FFFFC00#32 0x10002C00#32 (.sxhLong p rd next) ∧
      row 0x1FFFFF80#32 0x10001C00#32 (.cmpltuLong p pd rs next) ∧
      row 0x1FFFFF80#32 0x10001C80#32 (.cmpleuLong p pd rs next) ∧
      row 0x1FFFFF80#32 0x10001D00#32 (.cmpeqLong p pd rs next) ∧
      row 0x1FFFFF80#32 0x10001E00#32 (.cmpltsLong p pd rs next) ∧
      row 0x1FFFFF80#32 0x10001E80#32 (.cmplesLong p pd rs next) ∧
      row 0x1FFFFF80#32 0x10001F00#32 (.cmpbsLong p pd rs next) ∧
      row 0x1FFFFF80#32 0x10001F80#32 (.cmpbcLong p pd rs next)) ∧
    (row 0x1E001C00#32 0x12000000#32 (.lb p rd rs offL) ∧
      row 0x1E001C00#32 0x12000400#32 (.lh p rd rs offL) ∧
      row 0x1E001C00#32 0x12000800#32 (.lw p rd rs offL) ∧
      row 0x1E001C00#32 0x12000C00#32 (.ll p rd rs offL) ∧
      row 0x1E001C00#32 0x12001000#32 (.sb p rt rs offS) ∧
      row 0x1E001C00#32 0x12001400#32 (.sh p rt rs offS) ∧
      row 0x1E001C00#32 0x12001800#32 (.sw p rt rs offS) ∧
      row 0x1E001C00#32 0x12001C00#32 (.sc p rt rs offS) ∧
      row 0x1E000000#32 0x18000000#32 (.bImm p off25) ∧
      row 0x1E000000#32 0x1C000000#32 (.bReg p rs off20) ∧
      row 0x1E000000#32 0x1A000000#32 (.blImm p off25) ∧
      row 0x1E000000#32 0x1E000000#32 (.blReg p rs off20)) ∧
    (row 0x1FF00000#32 0x11100000#32 (.brk p) ∧
      row 0x1FF00000#32 0x11200000#32 (.syscall p) ∧
      row 0x1FF00000#32 0x11300000#32 (.fence p) ∧
      row 0x1FF00000#32 0x11400000#32 (.eret p) ∧
      row 0x1FF00000#32 0x11500000#32 (.flush p flush rs) ∧
      row 0x1FF00000#32 0x11600000#32 (.mfc p rd rs) ∧
      row 0x1FF00000#32 0x11700000#32 (.mtc p rd rs) ∧
      row 0x1FF00000#32 (0x11000000#32 + (encMfhi.setWidth 32 <<< 20)) (.mfhi p rd) ∧
      row 0x1FF00000#32 (0x11000000#32 + (encMthi.setWidth 32 <<< 20)) (.mthi p rs) ∧
      row 0x1FF80000#32 0x11800000#32 (.mult p rd rs rt) ∧
      row 0x1FF80000#32 0x11880000#32 (.mults p rd rs rt) ∧
      row 0x1FF00000#32 0x11900000#32 (.div p rd rs rt))

/-- The undefined encodings of 30_encoding.md R141 to R143 are refused by name: reserved ALU opcodes in the Short, Register,
Regsh and Long formats, the unassigned compare type in the Short, Register and Long formats, Regsh words with a two-operand
or compare opcode, Control words with no assigned code (the codes of MFHI and MTHI are open, log 9), and words of no
format. -/
def Obligations.UndefinedEncodingsAreRejected : Prop :=
  ∀ (w next : Word),
    let short := w.extractLsb' 28 1 = 0#1
    let register := w.extractLsb' 26 3 = 0b101#3
    let regsh := w.extractLsb' 21 8 = 0b10000001#8
    let long := w.extractLsb' 14 15 = 0b100000000000000#15
    (short ∨ register ∨ regsh ∨ long → 12 ≤ (w.extractLsb' 10 4).toNat → decodeWord w next = .error .reservedAluOpcode) ∧
    (short ∨ register ∨ long → w.extractLsb' 10 4 = 7#4 → w.extractLsb' 7 3 = 3#3 →
      decodeWord w next = .error .unassignedCompareType) ∧
    (regsh → (w.extractLsb' 10 4).toNat < 8 → decodeWord w next = .error .regshOpcode) ∧
    (w.extractLsb' 24 5 = 0b10001#5 → (w.extractLsb' 20 4).toNat = 0 ∨ 9 < (w.extractLsb' 20 4).toNat →
      w.extractLsb' 20 4 ≠ encMfhi → w.extractLsb' 20 4 ≠ encMthi → decodeWord w next = .error .unassignedControl) ∧
    (w.extractLsb' 24 5 = 0b10000#5 → ¬ regsh → ¬ long → decodeWord w next = .error .noFormat)

/-- Seven words written in the examples of spec/ decode to the instructions they stand for. -/
def Obligations.SampleWordsDecode : Prop :=
  decodeWord 0xC0140061#32 0#32 = .ok (.addShort ⟨3, false⟩ 3 1 5#10 0#4) ∧
  decodeWord 0xD4408061#32 0#32 = .ok (.addReg ⟨3, false⟩ 3 1 2 .lsl 2#5) ∧
  decodeWord 0xD0002020#32 0xDEADBEEF#32 = .ok (.movLong ⟨3, false⟩ 1 0xDEADBEEF#32) ∧
  decodeWord 0xD3FF8822#32 0#32 = .ok (.lw ⟨3, false⟩ 1 2 0xFFC#12) ∧
  decodeWord 0xD3F8FB82#32 0#32 = .ok (.sw ⟨3, false⟩ 3 2 0xFFC#12) ∧
  decodeWord 0x39FFFFFD#32 0#32 = .ok (.bImm ⟨0, true⟩ 0x1FFFFFD#25) ∧
  decodeWord 0xD1700205#32 0#32 = .ok (.mtc ⟨3, false⟩ 16 5)

/-! ## The packet -/

/-- Of the four slots of a packet, slot 0 is decoded, and each later slot is the constant of the slot before it, never
decoded, exactly if that slot is itself decoded and its word is in a long form, whatever its opcode; every slot that is
no constant is decoded from its own word, with the word after it as the constant of a long form
(40_packet_and_operands.md R164, decision D36). -/
def Obligations.SlotAfterLongFormIsOperand : Prop :=
  ∀ (w0 w1 w2 w3 : Word),
    let ws := [w0, w1, w2, w3]
    let slots := classify w0 w1 w2 w3
    let long (w : Word) := w.extractLsb' 14 15 = 0b100000000000000#15
    slots.length = 4 ∧ slots[0]? ≠ some .operand ∧
    (∀ k w, k < 3 → ws[k]? = some w → (slots[k + 1]? = some .operand ↔ slots[k]? ≠ some .operand ∧ long w)) ∧
    (∀ k w, k < 4 → ws[k]? = some w → slots[k]? ≠ some .operand → slots[k]? = some (slotOf w (ws[k + 1]?.getD 0#32)))

/-- A step fetches, decodes and runs: where no interrupt is taken and the fetch translates, the step is the packet of the
four words at the physical pc, whatever they hold, on the state whose pending requests have passed and whose instruction TLB
has taken up the translation; and where that packet is well-formed, its slot 0 decodes to `i` and its other instructions have
false predicates, the step is `exec i` on that state (40_packet_and_operands.md R160, R164, R171; that the TLB takes the
translation up is 20_memory.md R88, log 17). A slot that is decoded holds the instruction its word decodes to, and is
undefined exactly if decoding refuses the word. -/
def Obligations.StepRunsTheDecodedInstruction : Prop :=
  (∀ (s : State) (pa : Nat) (fills : List TlbEntry) (w0 w1 w2 w3 : Word),
    s.takenIrq = none → s.passBoundary.translate 0 .fetch s.pc = .ok pa fills →
    s.passBoundary.fetchWord pa = some w0 → s.passBoundary.fetchWord (pa + 4) = some w1 →
    s.passBoundary.fetchWord (pa + 8) = some w2 → s.passBoundary.fetchWord (pa + 12) = some w3 →
    let u := s.passBoundary.fillFetch fills
    step s = runPacket (classify w0 w1 w2 w3) u ∧
    ∀ (i : Instr) (xs : List Slot), decodeWord w0 w1 = .ok i → classify w0 w1 w2 w3 = .instr i :: xs →
      .undefined ∉ xs → packetWellFormed (some i :: xs.map slotInstr) = true →
      (∀ j, .instr j ∈ xs → s.holds j.pred = false) →
      step s = exec i u) ∧
  ∀ (w next : Word), (∀ i, slotOf w next = .instr i ↔ decodeWord w next = .ok i) ∧
    (slotOf w next = .undefined ↔ ∃ e, decodeWord w next = .error e)

/-- All lanes of a packet read the state before it and all their writes are in the state after it, for every packet in which
no lane raises: each decoded slot with a true predicate yields what its instruction yields on the state before the packet,
every other slot nothing, and every write so queued, of whatever lane, is there at the end (40_packet_and_operands.md R163,
R165, R166, R173, R174, decisions D5 and D35). An example of it: a BL beside an ADD, a SUB and an XOR with four different
destinations (41_alu.md R200, R204, R206, 44_branch.md R270, R272; that BL saves the address of its own packet is decision
D42, log 20). -/
def Obligations.LanesReadTheOldStateAndCommitTogether : Prop :=
  (∀ (slots : List Slot) (s t : State), slots.length = 4 → runPacket slots s = .next t →
    raisesNothing slots s →
    (∀ k i, slots[k]? = some (.instr i) →
      runSlot (lanesFrom 0 slots) s k (.instr i) = if s.holds i.pred then laneOf i k s else .idle) ∧
    (∀ k x w, slots[k]? = some x → w ∈ (runSlot (lanesFrom 0 slots) s k x).queue → Write.doneIn s t w)) ∧
  ∀ (s : State) (p0 p1 p2 p3 : Pred) (off : BitVec 25) (d1 d2 d3 a1 a2 a3 b1 b2 : Reg) (ty1 ty2 : ShiftType)
    (n1 n2 : BitVec 5) (imm : BitVec 10) (rot : BitVec 4),
    s.holds p0 = true → s.holds p1 = true → s.holds p2 = true → s.holds p3 = true →
    d1 ≠ 31 → d2 ≠ 31 → d3 ≠ 31 → d1 ≠ d2 → d1 ≠ d3 → d2 ≠ d3 →
    runPacket [.instr (.blImm p0 off), .instr (.addReg p1 d1 a1 b1 ty1 n1), .instr (.subReg p2 d2 a2 b2 ty2 n2),
        .instr (.xorShort p3 d3 a3 imm rot)] s =
      .next { s with
        regs := (((s.regs.set 31 s.pc).set d1 (s.reg a1 + shift (s.reg b1) ty1 n1.toNat)).set d2
          (s.reg a2 - shift (s.reg b2) ty2 n2.toNat)).set d3 (s.reg a3 ^^^ shortImm10 imm rot)
        pc := BitVec.ofInt 32 (s.pc.toInt + 16 * off.toInt)
        tick := s.tick + 1 }

/-- Whatever packet runs, a general register that no instruction of it names as destination, a predicate register that
none names, and ovf if none is MULT, MULTS, DIV or MTHI, keep their values; P3 always reads 1 (10_state.md R22, R26 to R28).
If besides no lane raises: a coprocessor register keeps its value unless an MTC that executes names it, PFLAGS also unless an
ERET executes; mode unless an ERET executes; the link bit unless an LL, SC or ERET executes; the instruction TLB unless a
FLUSH ITLB or an MTC to PTB executes; the data TLB unless a FLUSH DTLB or an MTC to PTB executes, but for the entries that the
lanes' translations give it (20_memory.md R88, log 17); what the instruction cache may still hold unless a FLUSH DATA or
FLUSH INST executes (log 16); PhysMap and IrqSource (10_state.md R29 to R31, R48 to R51, 40_packet_and_operands.md R166). -/
def Obligations.PacketWritesOnlyNamedDestinations : Prop :=
  ∀ (slots : List Slot) (s t : State), runPacket slots s = .next t →
    (∀ r, (∀ i, .instr i ∈ slots → i.gprDest ≠ some r) → t.reg r = s.reg r) ∧
    (∀ n, (∀ i, .instr i ∈ slots → i.predDest ≠ some n) → t.predReg n = s.predReg n) ∧
    ((∀ i, .instr i ∈ slots → Form.writesOvf i.form = false) → t.ovf = s.ovf) ∧
    t.predReg 3 = true ∧
    (raisesNothing slots s →
      let noMtc (c : Cop) : Prop := ∀ p n rs, copOfNum n = some c → ¬ executes slots s (.mtc p n rs)
      let noEret : Prop := ∀ p, ¬ executes slots s (.eret p)
      let noFlush (ty : FlushType) : Prop := ∀ p rs, ¬ executes slots s (.flush p ty rs)
      (∀ c, noMtc c → (c = .pflags → noEret) → t.readCop c = s.readCop c) ∧
      (noEret → t.mode = s.mode) ∧
      (noEret → (∀ p r rs off, ¬ executes slots s (.ll p r rs off) ∧ ¬ executes slots s (.sc p r rs off)) →
        t.link = s.link) ∧
      (noMtc .ptb → noFlush .itlb → t.itlb = s.itlb) ∧
      (noMtc .ptb → noFlush .dtlb → ∀ e, e ∈ t.dtlb ↔ e ∈ s.dtlb ∨ translates slots s e) ∧
      (noFlush .data → noFlush .inst → t.il1old = s.il1old) ∧
      t.physMap = s.physMap ∧ t.irqs = s.irqs ∧ t.irqsThen = s.irqsThen)

/-- A packet without SB, SH, SW or SC leaves every byte of memory as it was. In a packet in which no lane raises, whatever
else it holds, a byte of memory is as it was unless a store that a lane queued covers it; and unless a FLUSH DATA executes,
what the L2 view may still hold is what it might before and the bytes of RAM that such stores replaced (43_load_store.md
R240, 20_memory.md R94, R98, 40_packet_and_operands.md R166; log 15). -/
def Obligations.PacketChangesOnlyStoredBytes : Prop :=
  ∀ (slots : List Slot) (s t : State), runPacket slots s = .next t →
    ((∀ i, .instr i ∈ slots → Form.isStore i.form = false) → ∀ a, Memory.read t.mem a = Memory.read s.mem a) ∧
    (raisesNothing slots s →
      (∀ a, ¬ storesTo slots s a → Memory.read t.mem a = Memory.read s.mem a) ∧
      ((∀ p rs, ¬ executes slots s (.flush p .data rs)) → ∀ o, o ∈ t.l2old ↔
        o ∈ s.l2old ∨ (storesTo slots s o.1 ∧ s.isRam o.1 = true ∧ o.2 = Memory.read s.mem o.1)))

/-- After a packet that raises nothing and has no branch and no ERET with a true predicate, the pc has advanced by 16
modulo 2^32 (10_state.md R25; the wrap is decision D29). -/
def Obligations.PcAdvancesBySixteen : Prop :=
  ∀ (slots : List Slot) (s t : State), runPacket slots s = .next t →
    raisesNothing slots s →
    (∀ i, .instr i ∈ slots → s.holds i.pred = true → Form.redirects i.form = false) →
    t.pc.toNat = (s.pc.toNat + 16) % 2 ^ 32

/-- A packet any lane of which raises is cancelled and traps: every lane's error cause register gets its own code or No
Error, the error address of lanes 0 and 1 is the address their lane raised with or stays, no register of the program has
changed, and control is in kernel mode at EHA (40_packet_and_operands.md R169, 60_exceptions.md R340 to R343, decisions D4,
D17, D20 and D40). Each store that a lane queued is performed whole or not at all (open for each, log 13), and every byte
that none covers is as it was; beside a SYSCALL or BREAK that raises all of memory is as it was (46_system.md R301, R302, decision D23). The data TLB takes up the
entries that the lanes' translations give it, and else neither TLB, nor the instruction cache, nor PhysMap and IrqSource
change (20_memory.md R88, log 17); the L2 view may still hold what it might before and besides only bytes so replaced. -/
def Obligations.RaisingPacketIsCancelledAndTraps : Prop :=
  ∀ (slots : List Slot) (s t : State), slots.length = 4 → runPacket slots s = .next t →
    let out (k : Nat) (x : Slot) : LaneOut := runSlot (lanesFrom 0 slots) s k x
    (∃ k x, slots[k]? = some x ∧ (out k x).exc ≠ none) →
    trapped s t ∧
    (∀ k x, slots[k]? = some x → exnType (t.ec k) = excBits (out k x).exc ∧ intField (t.ec k) = 0#2) ∧
    (∀ x, slots[0]? = some x → t.ea0 = ((out 0 x).exc.bind Exc.ea).getD s.ea0) ∧
    (∀ x, slots[1]? = some x → t.ea1 = ((out 1 x).exc.bind Exc.ea).getD s.ea1) ∧
    (∀ a, ¬ storesTo slots s a → Memory.read t.mem a = Memory.read s.mem a) ∧
    (∀ (k : Nat) (x : Slot) (pa n : Nat) (v : Word), slots[k]? = some x → .store pa n v ∈ (out k x).queue →
      (∀ a, pa ≤ a → a < pa + n → Memory.read t.mem a = Memory.read s.mem a) ∨
      ∀ a, pa ≤ a → a < pa + n → Memory.read t.mem a =
        if s.isRam a then some ((v >>> (8 * (a - pa))).setWidth 8) else Memory.read s.mem a) ∧
    ((∃ k x e, slots[k]? = some x ∧ (out k x).exc = some e ∧ (e.code = .syscall ∨ e.code = .brk)) →
      t.mem = s.mem ∧ t.l2old = s.l2old) ∧
    (t.itlb = s.itlb ∧ (∀ e, e ∈ t.dtlb ↔ e ∈ s.dtlb ∨ translates slots s e) ∧ t.il1old = s.il1old ∧
      t.physMap = s.physMap ∧ t.irqs = s.irqs ∧ t.irqsThen = s.irqsThen) ∧
    (∀ o, o ∈ s.l2old → o ∈ t.l2old) ∧
    ∀ o, o ∈ t.l2old → o ∈ s.l2old ∨ (storesTo slots s o.1 ∧ s.isRam o.1 = true ∧ o.2 = Memory.read s.mem o.1)

/-- A slot that holds no defined encoding, a Control instruction outside slot 0, a memory instruction in slot 2 or 3 or a
long form in slot 3 raises Illegal Instruction whatever its predicate (40_packet_and_operands.md R167, decisions D6 and
D7; that the predicate does not matter is decision D8, 30_encoding.md R144, 40_packet_and_operands.md R165, log 20). -/
def Obligations.MisplacedOrUndefinedSlotIsIllegal : Prop :=
  ∀ (slots : List Slot) (s t : State) (k : Nat) (x : Slot), slots.length = 4 → runPacket slots s = .next t →
    slots[k]? = some x →
    (x = .undefined ∨ ∃ i, x = .instr i ∧
      ((i.cls = .control ∧ 0 < k) ∨ (i.cls = .memory ∧ 1 < k) ∨ (i.cls = .alu ∧ i.long = true ∧ k = 3))) →
    trapped s t ∧ exnType (t.ec k) = 0b00010#5

/-- Two instructions of a packet, legal in their slots and with true predicates, that name one general register or one of
P0 to P2: if the packet has a next state, it traps, and of the two lanes each records Duplicate Destination, but one that is
kernel-only in user mode Illegal Instruction (40_packet_and_operands.md R168 to R170, 60_exceptions.md R350, decisions D10
and D20). -/
def Obligations.DuplicateDestinationTrapsBothLanes : Prop :=
  ∀ (slots : List Slot) (s t : State) (j k : Nat) (a b : Instr), slots.length = 4 → runPacket slots s = .next t → j ≠ k →
    slots[j]? = some (.instr a) → slots[k]? = some (.instr b) → a.allowedIn j = true → b.allowedIn k = true →
    s.holds a.pred = true → s.holds b.pred = true →
    let code (i : Instr) : BitVec 5 := if i.kernelOnly = true ∧ s.mode = .user then 0b00010#5 else 0b00011#5
    ((∃ r, a.gprDest = some r ∧ b.gprDest = some r) ∨ (∃ n, n ≠ 3 ∧ a.predDest = some n ∧ b.predDest = some n)) →
    trapped s t ∧ exnType (t.ec j) = code a ∧ exnType (t.ec k) = code b

/-- The packets the spec leaves undecided are refused (40_packet_and_operands.md R168, U1 and U2, decision D10): two
instructions name one general register, or one predicate register among P0 to P2, and at most one of those that name it has
a true predicate; two name P3; an LL stands beside an SC or ERET, both with true predicates. That slots illegal by R167
count here is the model's reading (log 21, log 22). -/
def Obligations.UndecidedPacketsAreRefused : Prop :=
  ∀ (slots : List Slot) (s : State),
    (∀ r : Reg, namedTwice Instr.gprDest r slots → oneWriterAtMost Instr.gprDest r slots s →
      runPacket slots s = .refused .undecidedDestination) ∧
    (∀ n : PredReg, namedTwice Instr.predDest n slots → n = 3 ∨ oneWriterAtMost Instr.predDest n slots s →
      runPacket slots s = .refused .undecidedDestination) ∧
    (∀ (p : Pred) (rd rs : Reg) (off : BitVec 12) (c : Instr), .instr (.ll p rd rs off) ∈ slots → .instr c ∈ slots →
      s.holds p = true → s.holds c.pred = true → (c = .eret c.pred ∨ ∃ rt rb o, c = .sc c.pred rt rb o) →
      runPacket slots s = .refused .undecidedDestination ∨ runPacket slots s = .refused .linkConflict)

/-- A packet of four slots two lanes of which access overlapping bytes, at least one of them by a store that is performed, is
refused (20_memory.md R68, U5, decision D11; overlap is judged on physical addresses, log 23). What a lane accesses: the
bytes of its width at the physical address of its aligned address, and an SC without the link bit nothing. -/
def Obligations.OverlappingAccessesAreRefused : Prop :=
  (∀ (slots : List Slot) (s : State) (j k : Nat) (x y : Slot) (a b : Access), slots.length = 4 →
    packetRefusal (lanesFrom 0 slots) s = none → j ≠ k → slots[j]? = some x → slots[k]? = some y →
    (runSlot (lanesFrom 0 slots) s j x).access = some a → (runSlot (lanesFrom 0 slots) s k y).access = some b →
    (a.store = true ∨ b.store = true) → (∃ q, a.pa ≤ q ∧ q < a.pa + a.len ∧ b.pa ≤ q ∧ q < b.pa + b.len) →
    runPacket slots s = .refused .overlappingAccesses) ∧
  ∀ (s : State) (k : Nat) (p : Pred) (r rs : Reg) (off : BitVec 12) (pa : Nat) (fills : List TlbEntry),
    let addr := s.reg rs + off.signExtend 32
    let read (ea : Word) : Prop := s.translate (k + 1) .read ea = .ok pa fills
    let write (ea : Word) : Prop := s.translate (k + 1) .write ea = .ok pa fills
    let bytes (n : Nat) : Prop := ∀ q, pa ≤ q → q < pa + n → s.dataByte (3 * (k + 1)) q ≠ none
    (read addr → bytes 1 → (laneOf (.lb p r rs off) k s).access = some ⟨pa, 1, false⟩) ∧
    (read (addr &&& 0xFFFFFFFE#32) → bytes 2 → (laneOf (.lh p r rs off) k s).access = some ⟨pa, 2, false⟩) ∧
    (read (addr &&& 0xFFFFFFFC#32) → bytes 4 → (laneOf (.lw p r rs off) k s).access = some ⟨pa, 4, false⟩ ∧
      (laneOf (.ll p r rs off) k s).access = some ⟨pa, 4, false⟩) ∧
    (write addr → (laneOf (.sb p r rs off) k s).access = some ⟨pa, 1, true⟩) ∧
    (write (addr &&& 0xFFFFFFFE#32) → (laneOf (.sh p r rs off) k s).access = some ⟨pa, 2, true⟩) ∧
    (write (addr &&& 0xFFFFFFFC#32) → (laneOf (.sw p r rs off) k s).access = some ⟨pa, 4, true⟩ ∧
      (laneOf (.sc p r rs off) k s).access = if s.link then some ⟨pa, 4, true⟩ else none)

/-! ## Exceptions and interrupts -/

/-- Trap entry, for every cause: what it saves, what it sets, what it leaves (60_exceptions.md R340, R341, R342; the
places of M and IF in EPC are open, log 8; the clearing of the other codes is decision D17, the choice of the saved
address D40). -/
def Obligations.TrapEntrySavesAndSets : Prop :=
  ∀ (x0 x1 x2 x3 : Option Exc) (int : BitVec 2) (s : State),
    let t := trapEntry x0 x1 x2 x3 int s
    trapped s t ∧
    (t.epc.extractLsb' 4 28 = s.pc.extractLsb' 4 28 ∧ t.epc.getLsbD epcMBit = decide (s.mode = .kernel) ∧
      t.epc.getLsbD epcIfBit = s.ie ∧ epcMBit < 4 ∧ epcIfBit < 4 ∧ epcMBit ≠ epcIfBit ∧
      ∀ k, k < 4 → k ≠ epcMBit → k ≠ epcIfBit → t.epc.getLsbD k = false) ∧
    (exnType t.ec0 = excBits x0 ∧ exnType t.ec1 = excBits x1 ∧ exnType t.ec2 = excBits x2 ∧ exnType t.ec3 = excBits x3) ∧
    (intField t.ec0 = int ∧ intField t.ec1 = 0#2 ∧ intField t.ec2 = 0#2 ∧ intField t.ec3 = 0#2) ∧
    (t.ea0 = ((x0.bind Exc.ea).getD s.ea0) ∧ t.ea1 = ((x1.bind Exc.ea).getD s.ea1)) ∧
    (t.mem = s.mem ∧ t.l2old = s.l2old ∧ t.il1old = s.il1old ∧ t.itlb = s.itlb ∧ t.dtlb = s.dtlb ∧ t.irqs = s.irqs ∧
      t.irqsThen = s.irqsThen ∧ t.physMap = s.physMap)

/-- With interrupts enabled and a request pending, the step takes the lowest pending code instead of fetching; with
interrupts disabled, or with nothing pending at this packet boundary, it takes none: it fetches and runs the packet.
An interrupt leaves memory, the caches, both TLBs and PhysMap as they were (10_state.md R36, 60_exceptions.md R332, R333, R340, decisions D17 and D19). What is pending is what the input IrqSource
reports at this boundary: the first listed set, or after the list nothing or any set, drawn anew at every boundary
(60_exceptions.md R334; that State holds it so is log 7). -/
def Obligations.InterruptIsTakenIfEnabledAndPending : Prop :=
  ∀ (s : State),
    (s.ie = true → s.pendingIrqs ≠ [] →
      ∃ c t, c ∈ s.pendingIrqs ∧ (∀ d, d ∈ s.pendingIrqs → c.bits.toNat ≤ d.bits.toNat) ∧ step s = .next t ∧
        trapped s t ∧ exnType t.ec0 = 0b00111#5 ∧ intField t.ec0 = c.bits ∧
        exnType t.ec1 = 0#5 ∧ exnType t.ec2 = 0#5 ∧ exnType t.ec3 = 0#5 ∧
        intField t.ec1 = 0#2 ∧ intField t.ec2 = 0#2 ∧ intField t.ec3 = 0#2 ∧
        t.ea0 = s.ea0 ∧ t.ea1 = s.ea1 ∧ t.itlb = s.itlb ∧ sameOutsideFetch s t) ∧
    (s.ie = false ∨ s.pendingIrqs = [] → step s = fetchAndRun s.passBoundary) ∧
    (∀ pending later, s.irqs = pending :: later → s.pendingIrqs = pending) ∧
    (s.irqs = [] → s.irqsThen = .never → s.pendingIrqs = []) ∧
    (s.irqs = [] → s.irqsThen = .source →
      ∀ c, c ∈ s.pendingIrqs ↔ (Config.irqSource s.tick).getLsbD c.bits.toNat = true)

/-- A fetch whose physical address does not exist, and a fetch whose page check fails, trap with the code in EC0, No Error
elsewhere, no interrupt code, the pc in EPC and no error address (60_exceptions.md R322, R326, R338, R341, decisions D17 and
D18); the instruction TLB takes up what the translation found and nothing else (20_memory.md R88, log 17), and memory, the
caches, the data TLB and PhysMap are as they were. With paging off the address
is the pc itself, and it exists if PhysMap says so (20_memory.md R74, R93, decisions D2 and D3; PhysMap is open, log 6). A
fetch, or the walk for it, that meets a byte nothing has written stops the machine (70_reset_and_hazards.md R375, U4, log 4,
log 25). -/
def Obligations.FailedFetchTrapsWithItsCode : Prop :=
  ∀ (s : State), s.takenIrq = none →
    let traps (c : BitVec 5) (fills : List TlbEntry) : Prop :=
      ∃ t, step s = .next t ∧ trapped s t ∧ exnType t.ec0 = c ∧ exnType t.ec1 = 0#5 ∧ exnType t.ec2 = 0#5 ∧
        exnType t.ec3 = 0#5 ∧ (∀ k, k < 4 → intField (t.ec k) = 0#2) ∧ t.ea0 = s.ea0 ∧ t.ea1 = s.ea1 ∧
        (∀ e, e ∈ t.itlb ↔ e ∈ s.itlb ∨ e ∈ fills) ∧ sameOutsideFetch s t
    (∀ fills, s.passBoundary.translate 0 .fetch s.pc = .invalidPhysical fills → traps 0b00101#5 fills) ∧
    (∀ fills, s.passBoundary.translate 0 .fetch s.pc = .pageFault fills → traps 0b00001#5 fills) ∧
    (s.pe = false → s.physValid s.pc.toNat = false → traps 0b00101#5 []) ∧
    (∀ a, s.passBoundary.translate 0 .fetch s.pc = .unwritten a → step s = .fault (.unwrittenMemory a)) ∧
    (∀ pa fills, s.passBoundary.translate 0 .fetch s.pc = .ok pa fills → s.passBoundary.packetAt pa = none →
      step s = .fault (.unwrittenMemory pa))

/-! ## The whole machine -/

/-- What reset fixes: kernel mode, interrupts and paging off, link clear, both TLBs empty, no stale cached byte, the pc a
packet address (10_state.md R55, decision D28; RESET_PC itself is the model's choice, log 3). The PhysMap in it is the
spec's default, 512 MB of RAM from address 0 and nothing else, and its IrqSource the spec's default, never anything pending
(20_memory.md R73, 60_exceptions.md R334, decisions D3 and D19; the model's choices among the values of the open parameters,
log 6 and log 7). -/
def Obligations.ResetState : Prop :=
  State.reset.mode = .kernel ∧ State.reset.ie = false ∧ State.reset.pe = false ∧ State.reset.link = false ∧
    State.reset.itlb = [] ∧ State.reset.dtlb = [] ∧ State.reset.l2old = [] ∧ State.reset.il1old = [] ∧
    State.reset.predReg 3 = true ∧ State.reset.pc.extractLsb' 0 4 = 0#4 ∧
    State.reset.irqs = [] ∧ State.reset.irqsThen = .never ∧
    ∀ a, State.reset.physKind a = if a < 2 ^ 29 then some .ram else none

/-- The invariant holds after reset: the pc is a packet address, memory is canonical and lists addresses in RAM only
(the pc's and memory's reset contents are the model's choices, log 3 and log 4). -/
def Obligations.ResetMeetsTheInvariant : Prop := State.reset.inv = true

/-- Every step keeps the invariant, from every state that meets it: the pc stays a multiple of 16 (10_state.md R23), memory
stays canonical and no byte outside RAM is ever written to it; and no step changes PhysMap, or of IrqSource more than that
one packet boundary has passed (20_memory.md R73, R74, 60_exceptions.md R334, decisions D3 and D19; both are open, log 6 and
log 7). -/
def Obligations.EveryStepKeepsTheInvariant : Prop :=
  ∀ (s t : State), s.inv = true → step s = .next t →
    t.inv = true ∧ t.physMap = s.physMap ∧ t.irqs = s.irqs.tail ∧ t.irqsThen = s.irqsThen

/-- A step in user mode leaves mode, PFLAGS and every coprocessor register as they were, or is a trap into kernel mode at
EHA that leaves the general registers, the predicate registers, ovf, PFLAGS.PE, PTB, EHA and the scratchpads as they were
(60_exceptions.md R350, R351; that the kernel-only instructions trap is decision D9; of memory nothing is said, because the
store of a lane that did not fault may be performed, log 13). -/
def Obligations.UserModeReachesKernelStateOnlyByTrap : Prop :=
  ∀ (s t : State), s.mode = .user → step s = .next t →
    (t.mode = .user ∧ t.ie = s.ie ∧ t.pe = s.pe ∧ t.ptb = s.ptb ∧ t.eha = s.eha ∧ t.epc = s.epc ∧ t.ec0 = s.ec0 ∧
      t.ec1 = s.ec1 ∧ t.ec2 = s.ec2 ∧ t.ec3 = s.ec3 ∧ t.ea0 = s.ea0 ∧ t.ea1 = s.ea1 ∧ t.sp0 = s.sp0 ∧ t.sp1 = s.sp1 ∧
      t.sp2 = s.sp2 ∧ t.sp3 = s.sp3) ∨ trapped s t

/-- Kernel mode is left only by an ERET in slot 0 whose predicate is true, with EPC[M] = 0, to the packet EPC names
(60_exceptions.md R351, 46_system.md R305; the places of M and IF in EPC are open, log 8). -/
def Obligations.KernelModeIsLeftOnlyByEret : Prop :=
  ∀ (s t : State), s.mode = .kernel → step s = .next t → t.mode = .user →
    s.takenIrq = none ∧ s.epc.getLsbD epcMBit = false ∧ t.pc = s.epc &&& 0xFFFFFFF0#32 ∧
      t.ie = s.epc.getLsbD epcIfBit ∧ t.link = false ∧
      ∃ pa fills p xs, s.passBoundary.translate 0 .fetch s.pc = .ok pa fills ∧
        s.passBoundary.packetAt pa = some (.instr (.eret p) :: xs) ∧ s.holds p = true

/-- The link bit becomes 1 only in a packet with an LL whose predicate is true (10_state.md R29). -/
def Obligations.OnlyLoadLinkedSetsTheLinkBit : Prop :=
  ∀ (s t : State), step s = .next t → s.link = false → t.link = true →
    ∃ pa fills slots p rd rs off, s.passBoundary.translate 0 .fetch s.pc = .ok pa fills ∧
      s.passBoundary.packetAt pa = some slots ∧ .instr (.ll p rd rs off) ∈ slots ∧ s.holds p = true

/-! ## Translation and caches -/

/-- A page-table walk reads the entry at the directory index under PTB and then the entry at the table index under the
directory entry. A directory entry or a table entry at an address that does not exist is not present; a directory entry
with P = 0 is not present, whatever stands where its table would be; a table entry with P = 0 is not present; else the page
is the table entry's, writeable if both levels are, kernel-only or global if either is (20_memory.md R84, R85; the
addresses, the early exit and the addresses outside PhysMap are decision D38, log 20; PhysMap is open, log 6). The words it
reads are those of the L2 view, little-endian: each byte in RAM is memory's or an older one that the view may still hold
(20_memory.md R96, R98, decision D32; log 15). A walk that meets a byte nothing has written has no answer
(70_reset_and_hazards.md R375, U4, log 4, log 25). -/
def Obligations.WalkCombinesTheTwoLevels : Prop :=
  ∀ (s : State),
    (∀ (port : Nat) (va : Word),
      let pdAddr := (s.ptb.extractLsb' 12 17).toNat * 4096 + 4 * (va.extractLsb' 22 10).toNat
      (s.physValid pdAddr = false → s.walk port va = .notPresent) ∧
      (s.physValid pdAddr = true → s.l2Word (3 * port + 1) pdAddr = none → s.walk port va = .unwritten pdAddr) ∧
      ∀ d, s.physValid pdAddr = true → s.l2Word (3 * port + 1) pdAddr = some d →
        let ptAddr := (d.extractLsb' 12 17).toNat * 4096 + 4 * (va.extractLsb' 12 10).toNat
        (d.getLsbD 0 = false → s.walk port va = .notPresent) ∧
        (d.getLsbD 0 = true → s.physValid ptAddr = false → s.walk port va = .notPresent) ∧
        (d.getLsbD 0 = true → s.physValid ptAddr = true → s.l2Word (3 * port + 2) ptAddr = none →
          s.walk port va = .unwritten ptAddr) ∧
        ∀ t, d.getLsbD 0 = true → s.physValid ptAddr = true → s.l2Word (3 * port + 2) ptAddr = some t →
          s.walk port va =
            if t.getLsbD 0 then
              .entry { vpn := va.extractLsb' 12 20, ppn := t.extractLsb' 12 17, g := d.getLsbD 3 || t.getLsbD 3,
                       k := d.getLsbD 2 || t.getLsbD 2, w := d.getLsbD 1 && t.getLsbD 1 }
            else .notPresent) ∧
    ∀ (id a : Nat),
      (∀ w : Word, s.l2Word id a = some w ↔ ∀ k, k < 4 → s.l2Byte id (a + k) = some (w.extractLsb' (8 * k) 8)) ∧
      (s.isRam a = true → s.l2Byte id a = Memory.read s.mem a ∨ (a, s.l2Byte id a) ∈ s.l2old)

/-- With paging on, whichever translation an access uses: it is an entry the TLB may hold for the page or what a walk finds,
and the walk if there is no such entry; a page that is not present faults; the page admits the access exactly if it is not
kernel-only in user mode and is writeable for a write; the physical address is the page's number and the page offset, and
it must exist (20_memory.md R74, R80, R86, R88; for a fetch from a kernel-only page decision D37; the choice among entries,
log 17). An address exists if a range of PhysMap covers it, and the first such range says what stands there (00_scope.md
R7; PhysMap is open, log 6). A TLB that takes up translations may hold them and what it might hold before, nothing else
(20_memory.md R88, decision D31, log 17). With paging off the virtual address is the physical address, in either mode, for
every kind of access, whatever the TLBs hold, and they take nothing up; it must exist (20_memory.md R74, R93, decisions D2
and D3). A walk that meets a byte nothing has written leaves the access without an answer (log 4, log 25). -/
def Obligations.PagePermissionsGuardAccesses : Prop :=
  (∀ (s : State) (port : Nat) (kind : AccessKind) (va : Word), s.pe = true →
    ((∀ x, x ∈ s.tlb kind → x.vpn ≠ va.extractLsb' 12 20) → s.lookup port kind va = s.walk port va) ∧
    (s.lookup port kind va = .notPresent → s.walk port va = .notPresent ∧ s.translate port kind va = .pageFault []) ∧
    (∀ a, s.lookup port kind va = .unwritten a → s.walk port va = .unwritten a ∧ s.translate port kind va = .unwritten a) ∧
    ∀ e, s.lookup port kind va = .entry e →
      let pa := e.ppn.toNat * 4096 + va.toNat % 4096
      ((e ∈ s.tlb kind ∧ e.vpn = va.extractLsb' 12 20) ∨ s.walk port va = .entry e) ∧
      s.translate port kind va =
        if (e.k = true ∧ s.mode = .user) ∨ (kind = .write ∧ e.w = false) then .pageFault [e]
        else if s.physValid pa then .ok pa [e] else .invalidPhysical [e]) ∧
  (∀ (s : State) (port : Nat) (kind : AccessKind) (va : Word), s.pe = false →
    s.translate port kind va = if s.physValid va.toNat then .ok va.toNat [] else .invalidPhysical []) ∧
  (∀ (s : State) (a : Nat),
    (s.physValid a = true ↔ ∃ g ∈ s.physMap, g.first ≤ a ∧ a < g.first + g.size) ∧
    ∀ (before after : PhysMap) (g : PhysRegion), s.physMap = before ++ g :: after →
      (∀ h ∈ before, ¬ (h.first ≤ a ∧ a < h.first + h.size)) → g.first ≤ a → a < g.first + g.size →
      s.physKind a = some g.kind ∧ (s.isRam a = true ↔ g.kind = .ram)) ∧
  ∀ (held taken : List TlbEntry) (e : TlbEntry), e ∈ fillTlb held taken ↔ e ∈ held ∨ e ∈ taken

/-- FLUSH DATA and then FLUSH INST of an address, both translated to the same physical address, make fetches of its whole
line see memory, which neither changes (20_memory.md R97, R99, R101, R103, decisions D32 and D39; what an address where no
RAM stands answers a fetch is open, log 6). What a fetch sees at any time: little-endian words, each byte in RAM memory's or
an older one that the L2 view or the instruction cache may still hold (20_memory.md R60, R96 to R98; log 15, log 16). -/
def Obligations.FlushDataThenInstMakesFetchCoherent : Prop :=
  (∀ (s t : State) (p : Pred) (rs : Reg) (pa : Nat) (f1 f2 : List TlbEntry), s.holds p = true →
    s.translate 1 .read (s.reg rs) = .ok pa f1 → exec (.flush p .data rs) s = .next t →
    t.translate 1 .read (t.reg rs) = .ok pa f2 →
    ∃ u, exec (.flush p .inst rs) t = .next u ∧ u.mem = s.mem ∧
      ∀ a, sameLine a pa = true → s.isRam a = true → u.fetchByte a = Memory.read s.mem a) ∧
  ∀ (s : State) (a : Nat),
    (∀ w : Word, s.fetchWord a = some w ↔ ∀ k, k < 4 → s.fetchByte (a + k) = some (w.extractLsb' (8 * k) 8)) ∧
    (s.isRam a = true →
      s.fetchByte a = Memory.read s.mem a ∨ (a, s.fetchByte a) ∈ s.l2old ∨ (a, s.fetchByte a) ∈ s.il1old)

/-! ## Predication and the second operand -/

/-- The predicate of an instruction is the predicate register that bits 31:30 of its word name, P3 being 1, inverted if bit
29 is 1 (10_state.md R26, 30_encoding.md R111; the polarity is decision D46, log 20). An instruction whose predicate is
false does nothing: the pc advances (40_packet_and_operands.md R165, decision D8; that the packet holds the instruction
alone is log 1). -/
def Obligations.FalsePredicateDoesNothing : Prop :=
  (∀ (s : State) (p : Pred), s.holds p =
    ((if p.reg = 0 then s.p0 else if p.reg = 1 then s.p1 else if p.reg = 2 then s.p2 else true) ^^ p.inv)) ∧
  (∀ (i : Instr) (w : Word) (ws : List Word), encode i = w :: ws →
    i.pred.reg = (w.extractLsb' 30 2).toFin ∧ i.pred.inv = w.getLsbD 29) ∧
  ∀ (i : Instr) (s : State), s.holds i.pred = false → exec i s = .next s.advance

/-- Shift, bit by bit, for any amount (40_packet_and_operands.md R175; that amount 0 is the identity is decision D34). -/
def Obligations.ShiftBits : Prop :=
  ∀ (v : Word) (n k : Nat), k < 32 →
    (shift v .lsl n).getLsbD k = (decide (n ≤ k) && v.getLsbD (k - n)) ∧
    (shift v .lsr n).getLsbD k = (decide (k + n < 32) && v.getLsbD (k + n)) ∧
    (shift v .asr n).getLsbD k = (if k + n < 32 then v.getLsbD (k + n) else v.getLsbD 31) ∧
    (shift v .ror n).getLsbD k = v.getLsbD ((k + n) % 32)

/-- The second operand of every format: the rotated constants bit by bit, the shifted register, the register shifted by
the whole of a register, the long constant (40_packet_and_operands.md R176, R177, decision D22). A register operand is the
register with the number; none is hard-wired (10_state.md R20, R21). -/
def Obligations.SecondOperandByFormat : Prop :=
  ∀ (s : State) (i10 : BitVec 10) (i15 : BitVec 15) (rot : BitVec 4) (rt rs : Reg) (ty : ShiftType) (amt : BitVec 5)
    (imm : Word),
    (∀ k, k < 32 → (Op2.value s (.short i10 rot)).getLsbD k = i10.getLsbD ((k + 2 * rot.toNat) % 32)) ∧
    (∀ k, k < 32 → (Op1.value s (.short i15 rot)).getLsbD k = i15.getLsbD ((k + 2 * rot.toNat) % 32)) ∧
    Op2.value s (.reg rt ty amt) = shift (s.reg rt) ty amt.toNat ∧ Op1.value s (.reg rt ty amt) = shift (s.reg rt) ty amt.toNat ∧
    Op1.value s (.regsh rt ty rs) = shift (s.reg rt) ty (s.reg rs).toNat ∧
    Op2.value s (.long imm) = imm ∧ Op1.value s (.long imm) = imm ∧ ∀ r : Reg, s.reg r = s.regs[r]

/-! ## ALU instructions -/

/-- ADD, SUB and RSB in every format: Rd gets the sum or difference modulo 2^32 if the predicate holds, nothing else but
the pc changes (41_alu.md R200, R204, R205). -/
def Obligations.AddSubRsbResults : Prop :=
  ∀ (s : State) (p : Pred) (rd rs rt : Reg) (imm : BitVec 10) (rot : BitVec 4) (ty : ShiftType) (amt : BitVec 5) (w : Word),
    let a := (s.reg rs).toNat
    let b1 := (Op2.value s (.short imm rot)).toNat
    let b2 := (Op2.value s (.reg rt ty amt)).toNat
    let b3 := w.toNat
    exec (.addShort p rd rs imm rot) s = .next (s.afterGpr p rd (BitVec.ofNat 32 (a + b1))) ∧
    exec (.addReg p rd rs rt ty amt) s = .next (s.afterGpr p rd (BitVec.ofNat 32 (a + b2))) ∧
    exec (.addLong p rd rs w) s = .next (s.afterGpr p rd (BitVec.ofNat 32 (a + b3))) ∧
    exec (.subShort p rd rs imm rot) s = .next (s.afterGpr p rd (BitVec.ofInt 32 (a - b1))) ∧
    exec (.subReg p rd rs rt ty amt) s = .next (s.afterGpr p rd (BitVec.ofInt 32 (a - b2))) ∧
    exec (.subLong p rd rs w) s = .next (s.afterGpr p rd (BitVec.ofInt 32 (a - b3))) ∧
    exec (.rsbShort p rd rs imm rot) s = .next (s.afterGpr p rd (BitVec.ofInt 32 (b1 - a))) ∧
    exec (.rsbReg p rd rs rt ty amt) s = .next (s.afterGpr p rd (BitVec.ofInt 32 (b2 - a))) ∧
    exec (.rsbLong p rd rs w) s = .next (s.afterGpr p rd (BitVec.ofInt 32 (b3 - a)))

/-- AND, OR, NOR and XOR in every format: Rd gets the bitwise result if the predicate holds, nothing else but the pc
changes (41_alu.md R201, R202, R203, R206). -/
def Obligations.BitwiseResults : Prop :=
  ∀ (s : State) (p : Pred) (rd rs rt : Reg) (imm : BitVec 10) (rot : BitVec 4) (ty : ShiftType) (amt : BitVec 5) (w : Word),
    let a := s.reg rs
    let b1 := Op2.value s (.short imm rot)
    let b2 := Op2.value s (.reg rt ty amt)
    exec (.andShort p rd rs imm rot) s = .next (s.afterGpr p rd (a &&& b1)) ∧
    exec (.andReg p rd rs rt ty amt) s = .next (s.afterGpr p rd (a &&& b2)) ∧
    exec (.andLong p rd rs w) s = .next (s.afterGpr p rd (a &&& w)) ∧
    exec (.orShort p rd rs imm rot) s = .next (s.afterGpr p rd (a ||| b1)) ∧
    exec (.orReg p rd rs rt ty amt) s = .next (s.afterGpr p rd (a ||| b2)) ∧
    exec (.orLong p rd rs w) s = .next (s.afterGpr p rd (a ||| w)) ∧
    exec (.norShort p rd rs imm rot) s = .next (s.afterGpr p rd (~~~(a ||| b1))) ∧
    exec (.norReg p rd rs rt ty amt) s = .next (s.afterGpr p rd (~~~(a ||| b2))) ∧
    exec (.norLong p rd rs w) s = .next (s.afterGpr p rd (~~~(a ||| w))) ∧
    exec (.xorShort p rd rs imm rot) s = .next (s.afterGpr p rd (a ^^^ b1)) ∧
    exec (.xorReg p rd rs rt ty amt) s = .next (s.afterGpr p rd (a ^^^ b2)) ∧
    exec (.xorLong p rd rs w) s = .next (s.afterGpr p rd (a ^^^ w))

/-- MOV and MVN in every format: Rd gets Op2 or its complement if the predicate holds, nothing else but the pc changes
(41_alu.md R207, R208). -/
def Obligations.MoveResults : Prop :=
  ∀ (s : State) (p : Pred) (rd rs rt : Reg) (imm : BitVec 15) (rot : BitVec 4) (ty : ShiftType) (amt : BitVec 5) (w : Word),
    let b1 := Op1.value s (.short imm rot)
    let b2 := Op1.value s (.reg rt ty amt)
    let b3 := Op1.value s (.regsh rt ty rs)
    exec (.movShort p rd imm rot) s = .next (s.afterGpr p rd b1) ∧
    exec (.movReg p rd rt ty amt) s = .next (s.afterGpr p rd b2) ∧
    exec (.movRegsh p rd rt ty rs) s = .next (s.afterGpr p rd b3) ∧
    exec (.movLong p rd w) s = .next (s.afterGpr p rd w) ∧
    exec (.mvnShort p rd imm rot) s = .next (s.afterGpr p rd (~~~b1)) ∧
    exec (.mvnReg p rd rt ty amt) s = .next (s.afterGpr p rd (~~~b2)) ∧
    exec (.mvnRegsh p rd rt ty rs) s = .next (s.afterGpr p rd (~~~b3)) ∧
    exec (.mvnLong p rd w) s = .next (s.afterGpr p rd (~~~w))

/-- SXB and SXH in every format: Rd gets the low byte or half-word of Op2 as a signed number if the predicate holds,
nothing else but the pc changes (41_alu.md R210, R211). -/
def Obligations.SignExtensionResults : Prop :=
  ∀ (s : State) (p : Pred) (rd rs rt : Reg) (imm : BitVec 15) (rot : BitVec 4) (ty : ShiftType) (amt : BitVec 5) (w : Word),
    let sx8 (v : Word) : Word := BitVec.ofInt 32 (if v.toNat % 256 < 128 then v.toNat % 256 else (v.toNat % 256 : Int) - 256)
    let sx16 (v : Word) : Word :=
      BitVec.ofInt 32 (if v.toNat % 65536 < 32768 then v.toNat % 65536 else (v.toNat % 65536 : Int) - 65536)
    let b1 := Op1.value s (.short imm rot)
    let b2 := Op1.value s (.reg rt ty amt)
    let b3 := Op1.value s (.regsh rt ty rs)
    exec (.sxbShort p rd imm rot) s = .next (s.afterGpr p rd (sx8 b1)) ∧
    exec (.sxbReg p rd rt ty amt) s = .next (s.afterGpr p rd (sx8 b2)) ∧
    exec (.sxbRegsh p rd rt ty rs) s = .next (s.afterGpr p rd (sx8 b3)) ∧
    exec (.sxbLong p rd w) s = .next (s.afterGpr p rd (sx8 w)) ∧
    exec (.sxhShort p rd imm rot) s = .next (s.afterGpr p rd (sx16 b1)) ∧
    exec (.sxhReg p rd rt ty amt) s = .next (s.afterGpr p rd (sx16 b2)) ∧
    exec (.sxhRegsh p rd rt ty rs) s = .next (s.afterGpr p rd (sx16 b3)) ∧
    exec (.sxhLong p rd w) s = .next (s.afterGpr p rd (sx16 w))

/-! ## Compares -/

/-- CMPLTU, CMPLEU and CMPEQ in every format: Pd, unless it is P3, gets the bit of the unsigned comparison if the predicate
holds, nothing else but the pc changes (42_compare.md R221, R222, R223). -/
def Obligations.UnsignedCompareResults : Prop :=
  ∀ (s : State) (p : Pred) (pd : PredReg) (rs rt : Reg) (imm : BitVec 10) (rot : BitVec 4) (ty : ShiftType) (amt : BitVec 5)
    (w : Word),
    let a := (s.reg rs).toNat
    let b1 := (Op2.value s (.short imm rot)).toNat
    let b2 := (Op2.value s (.reg rt ty amt)).toNat
    let b3 := w.toNat
    exec (.cmpltuShort p pd rs imm rot) s = .next (s.afterPred p pd (decide (a < b1))) ∧
    exec (.cmpltuReg p pd rs rt ty amt) s = .next (s.afterPred p pd (decide (a < b2))) ∧
    exec (.cmpltuLong p pd rs w) s = .next (s.afterPred p pd (decide (a < b3))) ∧
    exec (.cmpleuShort p pd rs imm rot) s = .next (s.afterPred p pd (decide (a ≤ b1))) ∧
    exec (.cmpleuReg p pd rs rt ty amt) s = .next (s.afterPred p pd (decide (a ≤ b2))) ∧
    exec (.cmpleuLong p pd rs w) s = .next (s.afterPred p pd (decide (a ≤ b3))) ∧
    exec (.cmpeqShort p pd rs imm rot) s = .next (s.afterPred p pd (decide (a = b1))) ∧
    exec (.cmpeqReg p pd rs rt ty amt) s = .next (s.afterPred p pd (decide (a = b2))) ∧
    exec (.cmpeqLong p pd rs w) s = .next (s.afterPred p pd (decide (a = b3)))

/-- CMPLTS and CMPLES in every format: Pd, unless it is P3, gets the bit of the comparison of the signed values if the
predicate holds, nothing else but the pc changes (42_compare.md R224, R225). -/
def Obligations.SignedCompareResults : Prop :=
  ∀ (s : State) (p : Pred) (pd : PredReg) (rs rt : Reg) (imm : BitVec 10) (rot : BitVec 4) (ty : ShiftType) (amt : BitVec 5)
    (w : Word),
    let a := (s.reg rs).toInt
    let b1 := (Op2.value s (.short imm rot)).toInt
    let b2 := (Op2.value s (.reg rt ty amt)).toInt
    let b3 := w.toInt
    exec (.cmpltsShort p pd rs imm rot) s = .next (s.afterPred p pd (decide (a < b1))) ∧
    exec (.cmpltsReg p pd rs rt ty amt) s = .next (s.afterPred p pd (decide (a < b2))) ∧
    exec (.cmpltsLong p pd rs w) s = .next (s.afterPred p pd (decide (a < b3))) ∧
    exec (.cmplesShort p pd rs imm rot) s = .next (s.afterPred p pd (decide (a ≤ b1))) ∧
    exec (.cmplesReg p pd rs rt ty amt) s = .next (s.afterPred p pd (decide (a ≤ b2))) ∧
    exec (.cmplesLong p pd rs w) s = .next (s.afterPred p pd (decide (a ≤ b3)))

/-- CMPBS in every format: Pd, unless it is P3, says whether some bit selected by Op2 is 1 in Rs, if the predicate holds,
nothing else but the pc changes (42_compare.md R226). -/
def Obligations.CompareBitsSetResults : Prop :=
  ∀ (s : State) (p : Pred) (pd : PredReg) (rs rt : Reg) (imm : BitVec 10) (rot : BitVec 4) (ty : ShiftType) (amt : BitVec 5)
    (w : Word),
    let some1 (b : Word) : Bool := (List.range 32).any fun k => (s.reg rs).getLsbD k && b.getLsbD k
    exec (.cmpbsShort p pd rs imm rot) s = .next (s.afterPred p pd (some1 (Op2.value s (.short imm rot)))) ∧
    exec (.cmpbsReg p pd rs rt ty amt) s = .next (s.afterPred p pd (some1 (Op2.value s (.reg rt ty amt)))) ∧
    exec (.cmpbsLong p pd rs w) s = .next (s.afterPred p pd (some1 w))

/-- CMPBC in every format: Pd, unless it is P3, gets the bit of one of the two readings of the manual, the same for all
operands, if the predicate holds; with a mask of exactly one bit it says that the bit is 0 in Rs. Nothing else but the pc
changes (42_compare.md R227, decision D21, log 10). -/
def Obligations.CompareBitsClearResults : Prop :=
  ∃ allClear : Bool, ∀ (s : State) (p : Pred) (pd : PredReg) (rs rt : Reg) (imm : BitVec 10) (rot : BitVec 4) (ty : ShiftType)
    (amt : BitVec 5) (w : Word),
    let r (b : Word) : Bool := if allClear then s.reg rs &&& b == 0#32 else ~~~(s.reg rs) &&& b != 0#32
    exec (.cmpbcShort p pd rs imm rot) s = .next (s.afterPred p pd (r (Op2.value s (.short imm rot)))) ∧
    exec (.cmpbcReg p pd rs rt ty amt) s = .next (s.afterPred p pd (r (Op2.value s (.reg rt ty amt)))) ∧
    exec (.cmpbcLong p pd rs w) s = .next (s.afterPred p pd (r w)) ∧
    ∀ k, k < 32 → r (1#32 <<< k) = !(s.reg rs).getLsbD k

/-! ## Loads and stores -/

/-- LB, LH and LW, alone or in slot 0 or 1 of a packet whose other instructions do not execute, with a true predicate, an
address that translates and bytes there to read: Rd gets the bytes, little-endian and zero-extended, from the address with
its low bits dropped; the data TLB takes up the translation; nothing else but the pc changes (43_load_store.md R240 to R243;
the byte order is decision D1; that the TLB takes it up is 20_memory.md R88, log 17). Where RAM stands, the bytes are those
of memory; what else answers is open (log 6). A load, LL too, of a byte nothing has written stops the machine
(70_reset_and_hazards.md R375, U4, log 4). -/
def Obligations.LoadResults : Prop :=
  ∀ (s : State) (k : Nat) (p : Pred) (rd rs : Reg) (off : BitVec 12) (pa : Nat) (fills : List TlbEntry)
    (b0 b1 b2 b3 : Byte), k < 2 → s.holds p = true →
    let addr := s.reg rs + off.signExtend 32
    let byte (a : Nat) : Option Byte := s.dataByte (3 * (k + 1)) a
    let runs (i : Instr) (t : State) : Prop :=
      (k = 0 → exec i s = .next t) ∧ ∀ slots, soleIn k i slots s → runPacket slots s = .next t
    (s.translate (k + 1) .read addr = .ok pa fills → byte pa = some b0 →
      runs (.lb p rd rs off) { (s.withFills fills).advance with regs := s.regs.set rd (b0.setWidth 32) }) ∧
    (s.translate (k + 1) .read (addr &&& 0xFFFFFFFE#32) = .ok pa fills → byte pa = some b0 → byte (pa + 1) = some b1 →
      runs (.lh p rd rs off) { (s.withFills fills).advance with regs := s.regs.set rd ((b1 ++ b0).setWidth 32) }) ∧
    (s.translate (k + 1) .read (addr &&& 0xFFFFFFFC#32) = .ok pa fills → byte pa = some b0 → byte (pa + 1) = some b1 →
      byte (pa + 2) = some b2 → byte (pa + 3) = some b3 →
      runs (.lw p rd rs off) { (s.withFills fills).advance with regs := s.regs.set rd (b3 ++ b2 ++ b1 ++ b0) }) ∧
    (∀ a, s.isRam a = true → byte a = Memory.read s.mem a) ∧
    let stops (i : Instr) (n : Nat) : Prop := ∀ a, pa ≤ a → a < pa + n → byte a = none →
      (k = 0 → exec i s = .fault (.unwrittenMemory pa)) ∧
      ∀ slots, soleIn k i slots s → runPacket slots s = .fault (.unwrittenMemory pa)
    (s.translate (k + 1) .read addr = .ok pa fills → stops (.lb p rd rs off) 1) ∧
    (s.translate (k + 1) .read (addr &&& 0xFFFFFFFE#32) = .ok pa fills → stops (.lh p rd rs off) 2) ∧
    (s.translate (k + 1) .read (addr &&& 0xFFFFFFFC#32) = .ok pa fills →
      stops (.lw p rd rs off) 4 ∧ stops (.ll p rd rs off) 4)

/-- LL, alone or in slot 0 or 1 of a packet whose other instructions do not execute, is LW and sets the link bit
(43_load_store.md R244; the byte order is decision D1; the data TLB takes up the translation, 20_memory.md R88, log 17; for
what `dataByte` reads see LoadResults). -/
def Obligations.LoadLinkedResult : Prop :=
  ∀ (s : State) (k : Nat) (p : Pred) (rd rs : Reg) (off : BitVec 12) (pa : Nat) (fills : List TlbEntry)
    (b0 b1 b2 b3 : Byte), k < 2 → s.holds p = true →
    s.translate (k + 1) .read ((s.reg rs + off.signExtend 32) &&& 0xFFFFFFFC#32) = .ok pa fills →
    let byte (a : Nat) : Option Byte := s.dataByte (3 * (k + 1)) a
    byte pa = some b0 → byte (pa + 1) = some b1 → byte (pa + 2) = some b2 → byte (pa + 3) = some b3 →
    let t := { (s.withFills fills).advance with regs := s.regs.set rd (b3 ++ b2 ++ b1 ++ b0), link := true }
    (k = 0 → exec (.ll p rd rs off) s = .next t) ∧
    ∀ slots, soleIn k (.ll p rd rs off) slots s → runPacket slots s = .next t

/-- SB, SH and SW, alone or in slot 0 or 1 of a packet whose other instructions do not execute, with a true predicate and an
address that translates: the low bytes of Rt, little-endian, stand at the address with its low bits dropped, every other
byte of memory is as it was, the data TLB takes up the translation, the L2 view may still hold the bytes replaced and what
it might hold before, nothing else but the pc changes (43_load_store.md R240, R245 to R247, 20_memory.md R98; the byte order
is decision D1; that the TLB takes the translation up is R88, log 17; the older bytes, log 15). Where no RAM stands, memory
does not change (log 6). -/
def Obligations.StoreResults : Prop :=
  ∀ (s : State) (k : Nat) (p : Pred) (rt rs : Reg) (off : BitVec 12) (pa : Nat) (fills : List TlbEntry), k < 2 →
    s.holds p = true →
    let addr := s.reg rs + off.signExtend 32
    let runs (i : Instr) (t : State) : Prop :=
      (k = 0 → exec i s = .next t) ∧ ∀ slots, soleIn k i slots s → runPacket slots s = .next t
    let stored (i : Instr) (n : Nat) : Prop :=
      ∃ t, runs i t ∧ t = { (s.withFills fills).advance with mem := t.mem, l2old := t.l2old } ∧
      (∀ a, Memory.read t.mem a =
          if pa ≤ a ∧ a < pa + n ∧ s.isRam a = true then some ((s.reg rt).extractLsb' (8 * (a - pa)) 8)
          else Memory.read s.mem a) ∧
      ∀ o, o ∈ t.l2old ↔
        o ∈ s.l2old ∨ (pa ≤ o.1 ∧ o.1 < pa + n ∧ s.isRam o.1 = true ∧ o.2 = Memory.read s.mem o.1)
    (s.translate (k + 1) .write addr = .ok pa fills → stored (.sb p rt rs off) 1) ∧
    (s.translate (k + 1) .write (addr &&& 0xFFFFFFFE#32) = .ok pa fills → stored (.sh p rt rs off) 2) ∧
    (s.translate (k + 1) .write (addr &&& 0xFFFFFFFC#32) = .ok pa fills → stored (.sw p rt rs off) 4)

/-- SC with the link bit set, alone or in slot 0 or 1 of a packet whose other instructions do not execute, is SW, writes 1 to
P0 and clears the link bit (43_load_store.md R248, 20_memory.md R98; the byte order is decision D1; the data TLB takes up the
translation, 20_memory.md R88, log 17; where no RAM stands see StoreResults). -/
def Obligations.StoreConditionalSucceedsWithLink : Prop :=
  ∀ (s : State) (k : Nat) (p : Pred) (rt rs : Reg) (off : BitVec 12) (pa : Nat) (fills : List TlbEntry), k < 2 →
    s.holds p = true → s.link = true →
    s.translate (k + 1) .write ((s.reg rs + off.signExtend 32) &&& 0xFFFFFFFC#32) = .ok pa fills →
    ∃ t, (k = 0 → exec (.sc p rt rs off) s = .next t) ∧
      (∀ slots, soleIn k (.sc p rt rs off) slots s → runPacket slots s = .next t) ∧
      t = { (s.withFills fills).advance with mem := t.mem, l2old := t.l2old, p0 := true, link := false } ∧
      (∀ a, Memory.read t.mem a =
          if pa ≤ a ∧ a < pa + 4 ∧ s.isRam a = true then some ((s.reg rt).extractLsb' (8 * (a - pa)) 8)
          else Memory.read s.mem a) ∧
      ∀ o, o ∈ t.l2old ↔
        o ∈ s.l2old ∨ (pa ≤ o.1 ∧ o.1 < pa + 4 ∧ s.isRam o.1 = true ∧ o.2 = Memory.read s.mem o.1)

/-- SC without the link bit, alone or in slot 0 or 1 of a packet whose other instructions do not execute, writes 0 to P0,
stores nothing, translates nothing and cannot fault (43_load_store.md R248, decision D47). -/
def Obligations.StoreConditionalFailsWithoutLink : Prop :=
  ∀ (s : State) (p : Pred) (rt rs : Reg) (off : BitVec 12), s.holds p = true → s.link = false →
    exec (.sc p rt rs off) s = .next { s.advance with p0 := false } ∧
    ∀ k slots, k < 2 → soleIn k (.sc p rt rs off) slots s → runPacket slots s = .next { s.advance with p0 := false }

/-- A memory instruction, alone or in slot 0 or 1 of a packet whose other instructions do not execute, whose page check fails,
or whose physical address does not exist, traps with its code in the error cause register of its lane and the address before
alignment in its error address register, No Error in the other lanes'; the data TLB takes up the entry of the failed access,
though its packet traps; SC only with the link bit set (60_exceptions.md R325, R326, R341, R342, decisions D3, D17, D40 and
D47; the TLB: 20_memory.md R88, log 17). One whose walk meets a byte nothing has written stops the machine
(70_reset_and_hazards.md R375, U4, log 4, log 25). -/
def Obligations.MemoryInstructionsTrapWithTheirAddress : Prop :=
  ∀ (s : State) (k : Nat) (p : Pred) (r rs : Reg) (off : BitVec 12), k < 2 → s.holds p = true →
    let addr := s.reg rs + off.signExtend 32
    let every (res : TransResult) (o : Host.Outcome State Fault Refusal) : Prop :=
      let gives (kind : AccessKind) (ea : Word) (i : Instr) : Prop := s.translate (k + 1) kind ea = res →
        (k = 0 → exec i s = o) ∧ ∀ slots, soleIn k i slots s → runPacket slots s = o
      gives .read addr (.lb p r rs off) ∧ gives .read (addr &&& 0xFFFFFFFE#32) (.lh p r rs off) ∧
      gives .read (addr &&& 0xFFFFFFFC#32) (.lw p r rs off) ∧ gives .read (addr &&& 0xFFFFFFFC#32) (.ll p r rs off) ∧
      gives .write addr (.sb p r rs off) ∧ gives .write (addr &&& 0xFFFFFFFE#32) (.sh p r rs off) ∧
      gives .write (addr &&& 0xFFFFFFFC#32) (.sw p r rs off) ∧
      (s.link = true → gives .write (addr &&& 0xFFFFFFFC#32) (.sc p r rs off))
    let trap (c : ExcCode) (fills : List TlbEntry) : Host.Outcome State Fault Refusal :=
      let lane (j : Nat) : Option Exc := if k = j then some ⟨c, some addr⟩ else none
      .next (trapEntry (lane 0) (lane 1) none none 0#2 (s.withFills fills))
    (∀ fills, every (.pageFault fills) (trap .pageFaultData fills)) ∧
    (∀ fills, every (.invalidPhysical fills) (trap .invalidPhysical fills)) ∧
    ∀ a, every (.unwritten a) (.fault (.unwrittenMemory a))

/-! ## Branches -/

/-- B in both forms: the pc gets the base plus 16 times the signed packet offset, rounded down to a packet in the register
form, if the predicate holds, else advances; nothing else changes. The packet holds B alone (44_branch.md R270, R271,
log 1; other instructions beside a branch: LanesReadTheOldStateAndCommitTogether). -/
def Obligations.BranchResults : Prop :=
  ∀ (s : State) (p : Pred) (rs : Reg) (o25 : BitVec 25) (o20 : BitVec 20),
    exec (.bImm p o25) s =
      .next (s.afterIf p fun a => { a with pc := BitVec.ofInt 32 (s.pc.toInt + 16 * o25.toInt) }) ∧
    exec (.bReg p rs o20) s =
      .next (s.afterIf p fun a => { a with pc := BitVec.ofInt 32 ((s.reg rs).toInt + 16 * o20.toInt) &&& 0xFFFFFFF0#32 })

/-- BL, alone in its packet, is B and puts the address of its own packet into R31 (44_branch.md R270, R272, log 1; that it
is not the next packet's address is decision D42, 44_branch.md R273, log 20). -/
def Obligations.BranchWithLinkResults : Prop :=
  ∀ (s : State) (p : Pred) (rs : Reg) (o25 : BitVec 25) (o20 : BitVec 20),
    exec (.blImm p o25) s = .next (s.afterIf p fun a =>
      { a with regs := s.regs.set 31 s.pc, pc := BitVec.ofInt 32 (s.pc.toInt + 16 * o25.toInt) }) ∧
    exec (.blReg p rs o20) s = .next (s.afterIf p fun a =>
      { a with regs := s.regs.set 31 s.pc
               pc := BitVec.ofInt 32 ((s.reg rs).toInt + 16 * o20.toInt) &&& 0xFFFFFFF0#32 })

/-! ## Control instructions -/

/-- MULT and MULTS: Rd gets the low and ovf the high half of the 64-bit product if the predicate holds, nothing else but
the pc changes (45_control.md R281, R282). -/
def Obligations.MultiplyResults : Prop :=
  ∀ (s : State) (p : Pred) (rd rs rt : Reg),
    let u : Nat := (s.reg rs).toNat * (s.reg rt).toNat
    let v : Int := (s.reg rs).toInt * (s.reg rt).toInt
    exec (.mult p rd rs rt) s = .next (s.afterIf p fun a =>
      { a with regs := s.regs.set rd (BitVec.ofNat 32 u), ovf := BitVec.ofNat 32 (u / 2 ^ 32) }) ∧
    exec (.mults p rd rs rt) s = .next (s.afterIf p fun a =>
      { a with regs := s.regs.set rd (BitVec.ofInt 32 v), ovf := BitVec.ofInt 32 (v / 2 ^ 32) })

/-- DIV by a divisor other than 0: Rd gets the quotient and ovf the remainder, of the unsigned or, for all operands, of the
signed division truncated toward zero; for operands below 2^31 they are the same. Nothing else but the pc changes
(45_control.md R283, decision D12, log 11). -/
def Obligations.DivisionResults : Prop :=
  ∃ signed : Bool, ∀ (s : State) (p : Pred) (rd rs rt : Reg), s.holds p = true → s.reg rt ≠ 0#32 →
    let a := s.reg rs
    let b := s.reg rt
    let q : Word := if signed then BitVec.ofInt 32 (a.toInt.tdiv b.toInt) else BitVec.ofNat 32 (a.toNat / b.toNat)
    let r : Word := if signed then BitVec.ofInt 32 (a.toInt.tmod b.toInt) else BitVec.ofNat 32 (a.toNat % b.toNat)
    exec (.div p rd rs rt) s = .next { s.advance with regs := s.regs.set rd q, ovf := r } ∧
    (a.toNat < 2 ^ 31 → b.toNat < 2 ^ 31 → q.toNat = a.toNat / b.toNat ∧ r.toNat = a.toNat % b.toNat)

/-- DIV by 0 with a true predicate raises Divide by Zero and does nothing else: the next state is that of trap entry, with
Rd and ovf as they were (45_control.md R284, decisions D13 and D17). -/
def Obligations.DivisionByZeroTraps : Prop :=
  ∀ (s : State) (p : Pred) (rd rs rt : Reg), s.holds p = true → s.reg rt = 0#32 →
    let t := s.afterTrap .divideByZero
    exec (.div p rd rs rt) s = .next t ∧ trapped s t ∧ exnType t.ec0 = 0b00110#5 ∧ exnType t.ec1 = 0#5 ∧
      exnType t.ec2 = 0#5 ∧ exnType t.ec3 = 0#5 ∧ t.ea0 = s.ea0 ∧ t.ea1 = s.ea1 ∧ t.mem = s.mem

/-- MFHI moves ovf to Rd and MTHI moves Rs to ovf, in either mode, if the predicate holds; nothing else but the pc changes
(45_control.md R285, R286). -/
def Obligations.OverflowRegisterMoves : Prop :=
  ∀ (s : State) (p : Pred) (r : Reg),
    exec (.mfhi p r) s = .next (s.afterGpr p r s.ovf) ∧
    exec (.mthi p r) s = .next (s.afterIf p fun a => { a with ovf := s.reg r })

/-- FENCE is a no-operation (45_control.md R295, 20_memory.md R95). -/
def Obligations.FenceOnlyAdvancesThePc : Prop := ∀ (s : State) (p : Pred), exec (.fence p) s = .next s.advance

/-- FLUSH DATA and FLUSH INST in either mode: they translate x[rs] as a data read, and the data TLB takes up the translation
(20_memory.md R88, log 17); a page fault traps with x[rs] in EA0 (decisions D17 and D40); with an address that translates
to no physical memory they do nothing further. Else FLUSH DATA leaves the L2 view no older byte of the flushed line, and the instruction cache may still
hold those it had; FLUSH INST leaves the instruction cache no older byte of the flushed line; outside the line, and in all
else but the pc and the data TLB, nothing changes (45_control.md R296, 20_memory.md R99, R101, R102, decision D39; what the
caches may hold, log 15 and log 16). A line is the aligned block of CACHE_LINE_BYTES that holds the address, a power of two
not smaller than 4 (20_memory.md R103, decision D39; its size is open, log 12). A walk that meets a byte nothing has written
stops the machine (70_reset_and_hazards.md R375, log 4, log 25). -/
def Obligations.FlushLineResults : Prop :=
  (∃ n, 2 ≤ n ∧ lineBytes = 2 ^ n) ∧ (∀ a b, sameLine a b = true ↔ a / lineBytes = b / lineBytes) ∧
  ∀ (s : State) (p : Pred) (rs : Reg) (ty : FlushType) (fills : List TlbEntry), s.holds p = true →
    (ty = .data ∨ ty = .inst) →
    (s.translate 1 .read (s.reg rs) = .pageFault fills → exec (.flush p ty rs) s =
      .next (trapEntry (some ⟨.pageFaultData, some (s.reg rs)⟩) none none none 0#2 (s.withFills fills))) ∧
    (s.translate 1 .read (s.reg rs) = .invalidPhysical fills →
      exec (.flush p ty rs) s = .next (s.withFills fills).advance) ∧
    (∀ a, s.translate 1 .read (s.reg rs) = .unwritten a → exec (.flush p ty rs) s = .fault (.unwrittenMemory a)) ∧
    (∀ pa, s.translate 1 .read (s.reg rs) = .ok pa fills →
      ∃ t, exec (.flush p ty rs) s = .next t ∧
        t = { (s.withFills fills).advance with l2old := t.l2old, il1old := t.il1old } ∧
        (ty = .data → ∀ o, (o ∈ t.l2old ↔ o ∈ s.l2old ∧ sameLine o.1 pa = false) ∧
          (o ∈ t.il1old ↔ o ∈ s.il1old ∨ (o ∈ s.l2old ∧ sameLine o.1 pa = true))) ∧
        (ty = .inst → t.l2old = s.l2old ∧ ∀ o, o ∈ t.il1old ↔ o ∈ s.il1old ∧ sameLine o.1 pa = false))

/-- FLUSH DTLB and FLUSH ITLB in either mode: if the predicate holds, the named TLB loses the entries of the page of x[rs],
global or not, and no other; nothing else but the pc changes; nothing faults (20_memory.md R92, decision D39). -/
def Obligations.FlushTlbResults : Prop :=
  ∀ (s : State) (p : Pred) (rs : Reg), s.holds p = true →
    (∃ t, exec (.flush p .dtlb rs) s = .next t ∧ t = { s.advance with dtlb := t.dtlb } ∧
      ∀ e, e ∈ t.dtlb ↔ e ∈ s.dtlb ∧ e.vpn ≠ (s.reg rs).extractLsb' 12 20) ∧
    (∃ t, exec (.flush p .itlb rs) s = .next t ∧ t = { s.advance with itlb := t.itlb } ∧
      ∀ e, e ∈ t.itlb ↔ e ∈ s.itlb ∧ e.vpn ≠ (s.reg rs).extractLsb' 12 20)

/-! ## System instructions -/

/-- SYSCALL and BREAK with a true predicate, in either mode, trap with their codes and do nothing else: the next state is
that of trap entry (46_system.md R301, R302; for BREAK decision D23, for the other lanes' codes D17; that the packet holds
the instruction alone is log 1). -/
def Obligations.SyscallAndBreakTrap : Prop :=
  ∀ (s : State) (p : Pred), s.holds p = true →
    ∀ i x c, ((i = .syscall p ∧ x = .syscall ∧ c = 0b01000#5) ∨ (i = .brk p ∧ x = .brk ∧ c = 0b01001#5)) →
      let t := s.afterTrap x
      exec i s = .next t ∧ trapped s t ∧ exnType t.ec0 = c ∧ intField t.ec0 = 0#2 ∧ exnType t.ec1 = 0#5 ∧
        exnType t.ec2 = 0#5 ∧ exnType t.ec3 = 0#5 ∧ t.ea0 = s.ea0 ∧ t.ea1 = s.ea1 ∧ t.mem = s.mem

/-- ERET in kernel mode: pc, mode and IE from EPC, link cleared, nothing else changed (46_system.md R305; the places of M
and IF are open, log 8). -/
def Obligations.EretRestores : Prop :=
  ∀ (s : State) (p : Pred), s.holds p = true → s.mode = .kernel →
    exec (.eret p) s = .next { s with
      pc := s.epc.extractLsb' 4 28 ++ 0#4
      mode := if s.epc.getLsbD epcMBit then .kernel else .user
      ie := s.epc.getLsbD epcIfBit
      link := false
      tick := s.tick + 1 }

/-- MFC in kernel mode moves each of the fourteen coprocessor registers to Rd, PFLAGS with bits 31:2 zero, if the predicate
holds; nothing else but the pc changes (46_system.md R307, 10_state.md R31; the zero bits are decision D26). -/
def Obligations.MoveFromCoprocessorResults : Prop :=
  ∀ (s : State) (p : Pred) (rd : Reg), s.mode = .kernel →
    exec (.mfc p rd 0) s = .next (s.afterGpr p rd (BitVec.ofNat 32 (2 * s.pe.toNat + s.ie.toNat))) ∧
    exec (.mfc p rd 1) s = .next (s.afterGpr p rd s.ptb) ∧ exec (.mfc p rd 2) s = .next (s.afterGpr p rd s.eha) ∧
    exec (.mfc p rd 3) s = .next (s.afterGpr p rd s.epc) ∧ exec (.mfc p rd 4) s = .next (s.afterGpr p rd s.ec0) ∧
    exec (.mfc p rd 5) s = .next (s.afterGpr p rd s.ec1) ∧ exec (.mfc p rd 6) s = .next (s.afterGpr p rd s.ec2) ∧
    exec (.mfc p rd 7) s = .next (s.afterGpr p rd s.ec3) ∧ exec (.mfc p rd 8) s = .next (s.afterGpr p rd s.ea0) ∧
    exec (.mfc p rd 9) s = .next (s.afterGpr p rd s.ea1) ∧ exec (.mfc p rd 16) s = .next (s.afterGpr p rd s.sp0) ∧
    exec (.mfc p rd 17) s = .next (s.afterGpr p rd s.sp1) ∧ exec (.mfc p rd 18) s = .next (s.afterGpr p rd s.sp2) ∧
    exec (.mfc p rd 19) s = .next (s.afterGpr p rd s.sp3)

/-- MTC in kernel mode moves Rs to each of the fourteen coprocessor registers if the predicate holds: of PFLAGS only bits 1
and 0 are stored; nothing else but the pc changes, but for the TLBs by a write to PTB (46_system.md R309; the ignored
bits are decision D26). -/
def Obligations.MoveToCoprocessorResults : Prop :=
  ∀ (s : State) (p : Pred) (rs : Reg), s.mode = .kernel →
    let v := s.reg rs
    exec (.mtc p 0 rs) s = .next (s.afterIf p fun a => { a with ie := v.getLsbD 0, pe := v.getLsbD 1 }) ∧
    (∃ t, exec (.mtc p 1 rs) s = .next t ∧
      t = s.afterIf p fun a => { a with ptb := v, itlb := t.itlb, dtlb := t.dtlb }) ∧
    exec (.mtc p 2 rs) s = .next (s.afterIf p fun a => { a with eha := v }) ∧
    exec (.mtc p 3 rs) s = .next (s.afterIf p fun a => { a with epc := v }) ∧
    exec (.mtc p 4 rs) s = .next (s.afterIf p fun a => { a with ec0 := v }) ∧
    exec (.mtc p 5 rs) s = .next (s.afterIf p fun a => { a with ec1 := v }) ∧
    exec (.mtc p 6 rs) s = .next (s.afterIf p fun a => { a with ec2 := v }) ∧
    exec (.mtc p 7 rs) s = .next (s.afterIf p fun a => { a with ec3 := v }) ∧
    exec (.mtc p 8 rs) s = .next (s.afterIf p fun a => { a with ea0 := v }) ∧
    exec (.mtc p 9 rs) s = .next (s.afterIf p fun a => { a with ea1 := v }) ∧
    exec (.mtc p 16 rs) s = .next (s.afterIf p fun a => { a with sp0 := v }) ∧
    exec (.mtc p 17 rs) s = .next (s.afterIf p fun a => { a with sp1 := v }) ∧
    exec (.mtc p 18 rs) s = .next (s.afterIf p fun a => { a with sp2 := v }) ∧
    exec (.mtc p 19 rs) s = .next (s.afterIf p fun a => { a with sp3 := v })

/-- A write to PTB removes from both TLBs every entry that is not global and keeps every entry that is (20_memory.md R91). -/
def Obligations.PageTableBaseWriteDropsNonGlobalEntries : Prop :=
  ∀ (s : State) (p : Pred) (rs : Reg), s.mode = .kernel → s.holds p = true →
    ∃ t, exec (.mtc p 1 rs) s = .next t ∧ t.ptb = s.reg rs ∧ (∀ e, e ∈ t.itlb ↔ e ∈ s.itlb ∧ e.g = true) ∧
      (∀ e, e ∈ t.dtlb ↔ e ∈ s.dtlb ∧ e.g = true)

/-- MFC and MTC of an unassigned coprocessor number in kernel mode with a true predicate are refused (10_state.md R47,
U3). -/
def Obligations.UnassignedCoprocessorNumberIsRefused : Prop :=
  ∀ (s : State) (p : Pred) (r : Reg) (n : CopNum), s.mode = .kernel → s.holds p = true →
    ((10 ≤ n.val ∧ n.val ≤ 15) ∨ 20 ≤ n.val) →
    exec (.mfc p r n) s = .refused (.unassignedCoprocessor n) ∧ exec (.mtc p n r) s = .refused (.unassignedCoprocessor n)

/-- ERET, MFC and MTC in user mode with a true predicate raise Illegal Instruction and do nothing else, whatever the
coprocessor number: the next state is that of trap entry (60_exceptions.md R350, decision D9; that the other lanes get No
Error is R341, decision D17; that the packet holds the instruction alone is log 1). -/
def Obligations.KernelInstructionsTrapInUserMode : Prop :=
  ∀ (s : State) (p : Pred) (r : Reg) (n : CopNum) (i : Instr), s.mode = .user → s.holds p = true →
    (i = .eret p ∨ i = .mfc p r n ∨ i = .mtc p n r) →
    let t := s.afterTrap .illegalInstruction
    exec i s = .next t ∧ trapped s t ∧ exnType t.ec0 = 0b00010#5 ∧ exnType t.ec1 = 0#5 ∧ exnType t.ec2 = 0#5 ∧
      exnType t.ec3 = 0#5 ∧ t.ea0 = s.ea0 ∧ t.ea1 = s.ea1 ∧ t.mem = s.mem
end

