-- ==== Sys2Proof/Laws/Bits.lean ====
section
/-! SUPPORT. Reading a slice of joined bit vectors, and the field codes read back. -/
namespace Sys2Proof

/-- A slice that lies in the upper part of a join. -/
theorem extract_append_high {n m : Nat} (x : BitVec n) (y : BitVec m) (start len : Nat) (h : m ≤ start) :
    (x ++ y).extractLsb' start len = x.extractLsb' (start - m) len := by
  ext i hi
  have : ¬ (start + i < m) := by omega
  simp [BitVec.getLsbD_append, this]
  congr 1
  omega

/-- A slice that lies in the lower part of a join. -/
theorem extract_append_low {n m : Nat} (x : BitVec n) (y : BitVec m) (start len : Nat) (h : start + len ≤ m) :
    (x ++ y).extractLsb' start len = y.extractLsb' start len := by
  ext i hi
  have : start + i < m := by omega
  simp [BitVec.getLsbD_append, this]

end Sys2Proof
end

