-- ==== Sys2Proof/Laws/State.lean ====
section
/-! SUPPORT. What each update of the state does to each field, as simp lemmas, so that no proof unfolds an update. -/
namespace Sys2Proof.Machine

/-! ### Writing a general register -/

@[simp] theorem State.setReg_regs (s : State) (r : Reg) (v : Word) : (s.setReg r v).regs = s.regs.set r v := rfl
@[simp] theorem State.setReg_p0 (s : State) (r : Reg) (v : Word) : (s.setReg r v).p0 = s.p0 := rfl
@[simp] theorem State.setReg_p1 (s : State) (r : Reg) (v : Word) : (s.setReg r v).p1 = s.p1 := rfl
@[simp] theorem State.setReg_p2 (s : State) (r : Reg) (v : Word) : (s.setReg r v).p2 = s.p2 := rfl
@[simp] theorem State.setReg_pc (s : State) (r : Reg) (v : Word) : (s.setReg r v).pc = s.pc := rfl
@[simp] theorem State.setReg_ovf (s : State) (r : Reg) (v : Word) : (s.setReg r v).ovf = s.ovf := rfl
@[simp] theorem State.setReg_link (s : State) (r : Reg) (v : Word) : (s.setReg r v).link = s.link := rfl
@[simp] theorem State.setReg_mode (s : State) (r : Reg) (v : Word) : (s.setReg r v).mode = s.mode := rfl
@[simp] theorem State.setReg_ie (s : State) (r : Reg) (v : Word) : (s.setReg r v).ie = s.ie := rfl
@[simp] theorem State.setReg_pe (s : State) (r : Reg) (v : Word) : (s.setReg r v).pe = s.pe := rfl
@[simp] theorem State.setReg_ptb (s : State) (r : Reg) (v : Word) : (s.setReg r v).ptb = s.ptb := rfl
@[simp] theorem State.setReg_eha (s : State) (r : Reg) (v : Word) : (s.setReg r v).eha = s.eha := rfl
@[simp] theorem State.setReg_epc (s : State) (r : Reg) (v : Word) : (s.setReg r v).epc = s.epc := rfl
@[simp] theorem State.setReg_ec0 (s : State) (r : Reg) (v : Word) : (s.setReg r v).ec0 = s.ec0 := rfl
@[simp] theorem State.setReg_ec1 (s : State) (r : Reg) (v : Word) : (s.setReg r v).ec1 = s.ec1 := rfl
@[simp] theorem State.setReg_ec2 (s : State) (r : Reg) (v : Word) : (s.setReg r v).ec2 = s.ec2 := rfl
@[simp] theorem State.setReg_ec3 (s : State) (r : Reg) (v : Word) : (s.setReg r v).ec3 = s.ec3 := rfl
@[simp] theorem State.setReg_ea0 (s : State) (r : Reg) (v : Word) : (s.setReg r v).ea0 = s.ea0 := rfl
@[simp] theorem State.setReg_ea1 (s : State) (r : Reg) (v : Word) : (s.setReg r v).ea1 = s.ea1 := rfl
@[simp] theorem State.setReg_sp0 (s : State) (r : Reg) (v : Word) : (s.setReg r v).sp0 = s.sp0 := rfl
@[simp] theorem State.setReg_sp1 (s : State) (r : Reg) (v : Word) : (s.setReg r v).sp1 = s.sp1 := rfl
@[simp] theorem State.setReg_sp2 (s : State) (r : Reg) (v : Word) : (s.setReg r v).sp2 = s.sp2 := rfl
@[simp] theorem State.setReg_sp3 (s : State) (r : Reg) (v : Word) : (s.setReg r v).sp3 = s.sp3 := rfl
@[simp] theorem State.setReg_itlb (s : State) (r : Reg) (v : Word) : (s.setReg r v).itlb = s.itlb := rfl
@[simp] theorem State.setReg_dtlb (s : State) (r : Reg) (v : Word) : (s.setReg r v).dtlb = s.dtlb := rfl
@[simp] theorem State.setReg_mem (s : State) (r : Reg) (v : Word) : (s.setReg r v).mem = s.mem := rfl
@[simp] theorem State.setReg_l2old (s : State) (r : Reg) (v : Word) : (s.setReg r v).l2old = s.l2old := rfl
@[simp] theorem State.setReg_il1old (s : State) (r : Reg) (v : Word) : (s.setReg r v).il1old = s.il1old := rfl
@[simp] theorem State.setReg_physMap (s : State) (r : Reg) (v : Word) : (s.setReg r v).physMap = s.physMap := rfl
@[simp] theorem State.setReg_irqs (s : State) (r : Reg) (v : Word) : (s.setReg r v).irqs = s.irqs := rfl
@[simp] theorem State.setReg_irqsThen (s : State) (r : Reg) (v : Word) : (s.setReg r v).irqsThen = s.irqsThen := rfl
@[simp] theorem State.setReg_tick (s : State) (r : Reg) (v : Word) : (s.setReg r v).tick = s.tick := rfl

/-! ### Writing a predicate register -/

@[simp] theorem State.setPredReg_regs (s : State) (n : PredReg) (b : Bool) : (s.setPredReg n b).regs = s.regs := by
  unfold State.setPredReg; split <;> simp
@[simp] theorem State.setPredReg_p0 (s : State) (n : PredReg) (b : Bool) : (s.setPredReg n b).p0 = if n = 0 then b else s.p0 := by
  unfold State.setPredReg; split <;> simp
@[simp] theorem State.setPredReg_p1 (s : State) (n : PredReg) (b : Bool) : (s.setPredReg n b).p1 = if n = 1 then b else s.p1 := by
  unfold State.setPredReg; split <;> simp
@[simp] theorem State.setPredReg_p2 (s : State) (n : PredReg) (b : Bool) : (s.setPredReg n b).p2 = if n = 2 then b else s.p2 := by
  unfold State.setPredReg; split <;> simp
@[simp] theorem State.setPredReg_pc (s : State) (n : PredReg) (b : Bool) : (s.setPredReg n b).pc = s.pc := by
  unfold State.setPredReg; split <;> simp
@[simp] theorem State.setPredReg_ovf (s : State) (n : PredReg) (b : Bool) : (s.setPredReg n b).ovf = s.ovf := by
  unfold State.setPredReg; split <;> simp
@[simp] theorem State.setPredReg_link (s : State) (n : PredReg) (b : Bool) : (s.setPredReg n b).link = s.link := by
  unfold State.setPredReg; split <;> simp
@[simp] theorem State.setPredReg_mode (s : State) (n : PredReg) (b : Bool) : (s.setPredReg n b).mode = s.mode := by
  unfold State.setPredReg; split <;> simp
@[simp] theorem State.setPredReg_ie (s : State) (n : PredReg) (b : Bool) : (s.setPredReg n b).ie = s.ie := by
  unfold State.setPredReg; split <;> simp
@[simp] theorem State.setPredReg_pe (s : State) (n : PredReg) (b : Bool) : (s.setPredReg n b).pe = s.pe := by
  unfold State.setPredReg; split <;> simp
@[simp] theorem State.setPredReg_ptb (s : State) (n : PredReg) (b : Bool) : (s.setPredReg n b).ptb = s.ptb := by
  unfold State.setPredReg; split <;> simp
@[simp] theorem State.setPredReg_eha (s : State) (n : PredReg) (b : Bool) : (s.setPredReg n b).eha = s.eha := by
  unfold State.setPredReg; split <;> simp
@[simp] theorem State.setPredReg_epc (s : State) (n : PredReg) (b : Bool) : (s.setPredReg n b).epc = s.epc := by
  unfold State.setPredReg; split <;> simp
@[simp] theorem State.setPredReg_ec0 (s : State) (n : PredReg) (b : Bool) : (s.setPredReg n b).ec0 = s.ec0 := by
  unfold State.setPredReg; split <;> simp
@[simp] theorem State.setPredReg_ec1 (s : State) (n : PredReg) (b : Bool) : (s.setPredReg n b).ec1 = s.ec1 := by
  unfold State.setPredReg; split <;> simp
@[simp] theorem State.setPredReg_ec2 (s : State) (n : PredReg) (b : Bool) : (s.setPredReg n b).ec2 = s.ec2 := by
  unfold State.setPredReg; split <;> simp
@[simp] theorem State.setPredReg_ec3 (s : State) (n : PredReg) (b : Bool) : (s.setPredReg n b).ec3 = s.ec3 := by
  unfold State.setPredReg; split <;> simp
@[simp] theorem State.setPredReg_ea0 (s : State) (n : PredReg) (b : Bool) : (s.setPredReg n b).ea0 = s.ea0 := by
  unfold State.setPredReg; split <;> simp
@[simp] theorem State.setPredReg_ea1 (s : State) (n : PredReg) (b : Bool) : (s.setPredReg n b).ea1 = s.ea1 := by
  unfold State.setPredReg; split <;> simp
@[simp] theorem State.setPredReg_sp0 (s : State) (n : PredReg) (b : Bool) : (s.setPredReg n b).sp0 = s.sp0 := by
  unfold State.setPredReg; split <;> simp
@[simp] theorem State.setPredReg_sp1 (s : State) (n : PredReg) (b : Bool) : (s.setPredReg n b).sp1 = s.sp1 := by
  unfold State.setPredReg; split <;> simp
@[simp] theorem State.setPredReg_sp2 (s : State) (n : PredReg) (b : Bool) : (s.setPredReg n b).sp2 = s.sp2 := by
  unfold State.setPredReg; split <;> simp
@[simp] theorem State.setPredReg_sp3 (s : State) (n : PredReg) (b : Bool) : (s.setPredReg n b).sp3 = s.sp3 := by
  unfold State.setPredReg; split <;> simp
@[simp] theorem State.setPredReg_itlb (s : State) (n : PredReg) (b : Bool) : (s.setPredReg n b).itlb = s.itlb := by
  unfold State.setPredReg; split <;> simp
@[simp] theorem State.setPredReg_dtlb (s : State) (n : PredReg) (b : Bool) : (s.setPredReg n b).dtlb = s.dtlb := by
  unfold State.setPredReg; split <;> simp
@[simp] theorem State.setPredReg_mem (s : State) (n : PredReg) (b : Bool) : (s.setPredReg n b).mem = s.mem := by
  unfold State.setPredReg; split <;> simp
@[simp] theorem State.setPredReg_l2old (s : State) (n : PredReg) (b : Bool) : (s.setPredReg n b).l2old = s.l2old := by
  unfold State.setPredReg; split <;> simp
@[simp] theorem State.setPredReg_il1old (s : State) (n : PredReg) (b : Bool) : (s.setPredReg n b).il1old = s.il1old := by
  unfold State.setPredReg; split <;> simp
@[simp] theorem State.setPredReg_physMap (s : State) (n : PredReg) (b : Bool) : (s.setPredReg n b).physMap = s.physMap := by
  unfold State.setPredReg; split <;> simp
@[simp] theorem State.setPredReg_irqs (s : State) (n : PredReg) (b : Bool) : (s.setPredReg n b).irqs = s.irqs := by
  unfold State.setPredReg; split <;> simp
@[simp] theorem State.setPredReg_irqsThen (s : State) (n : PredReg) (b : Bool) : (s.setPredReg n b).irqsThen = s.irqsThen := by
  unfold State.setPredReg; split <;> simp
@[simp] theorem State.setPredReg_tick (s : State) (n : PredReg) (b : Bool) : (s.setPredReg n b).tick = s.tick := by
  unfold State.setPredReg; split <;> simp

/-! ### Writing a coprocessor register -/

@[simp] theorem State.writeCop_regs (s : State) (c : Cop) (v : Word) : (s.writeCop c v).regs = s.regs := by
  cases c <;> rfl
@[simp] theorem State.writeCop_p0 (s : State) (c : Cop) (v : Word) : (s.writeCop c v).p0 = s.p0 := by
  cases c <;> rfl
@[simp] theorem State.writeCop_p1 (s : State) (c : Cop) (v : Word) : (s.writeCop c v).p1 = s.p1 := by
  cases c <;> rfl
@[simp] theorem State.writeCop_p2 (s : State) (c : Cop) (v : Word) : (s.writeCop c v).p2 = s.p2 := by
  cases c <;> rfl
@[simp] theorem State.writeCop_pc (s : State) (c : Cop) (v : Word) : (s.writeCop c v).pc = s.pc := by
  cases c <;> rfl
@[simp] theorem State.writeCop_ovf (s : State) (c : Cop) (v : Word) : (s.writeCop c v).ovf = s.ovf := by
  cases c <;> rfl
@[simp] theorem State.writeCop_link (s : State) (c : Cop) (v : Word) : (s.writeCop c v).link = s.link := by
  cases c <;> rfl
@[simp] theorem State.writeCop_mode (s : State) (c : Cop) (v : Word) : (s.writeCop c v).mode = s.mode := by
  cases c <;> rfl
@[simp] theorem State.writeCop_mem (s : State) (c : Cop) (v : Word) : (s.writeCop c v).mem = s.mem := by
  cases c <;> rfl
@[simp] theorem State.writeCop_l2old (s : State) (c : Cop) (v : Word) : (s.writeCop c v).l2old = s.l2old := by
  cases c <;> rfl
@[simp] theorem State.writeCop_il1old (s : State) (c : Cop) (v : Word) : (s.writeCop c v).il1old = s.il1old := by
  cases c <;> rfl
@[simp] theorem State.writeCop_physMap (s : State) (c : Cop) (v : Word) : (s.writeCop c v).physMap = s.physMap := by
  cases c <;> rfl
@[simp] theorem State.writeCop_irqs (s : State) (c : Cop) (v : Word) : (s.writeCop c v).irqs = s.irqs := by
  cases c <;> rfl
@[simp] theorem State.writeCop_irqsThen (s : State) (c : Cop) (v : Word) : (s.writeCop c v).irqsThen = s.irqsThen := by
  cases c <;> rfl
@[simp] theorem State.writeCop_tick (s : State) (c : Cop) (v : Word) : (s.writeCop c v).tick = s.tick := by
  cases c <;> rfl

/-! ### Storing a byte -/

@[simp] theorem State.storeByte_regs (s : State) (a : Nat) (b : Byte) : (s.storeByte a b).regs = s.regs := rfl
@[simp] theorem State.storeByte_p0 (s : State) (a : Nat) (b : Byte) : (s.storeByte a b).p0 = s.p0 := rfl
@[simp] theorem State.storeByte_p1 (s : State) (a : Nat) (b : Byte) : (s.storeByte a b).p1 = s.p1 := rfl
@[simp] theorem State.storeByte_p2 (s : State) (a : Nat) (b : Byte) : (s.storeByte a b).p2 = s.p2 := rfl
@[simp] theorem State.storeByte_pc (s : State) (a : Nat) (b : Byte) : (s.storeByte a b).pc = s.pc := rfl
@[simp] theorem State.storeByte_ovf (s : State) (a : Nat) (b : Byte) : (s.storeByte a b).ovf = s.ovf := rfl
@[simp] theorem State.storeByte_link (s : State) (a : Nat) (b : Byte) : (s.storeByte a b).link = s.link := rfl
@[simp] theorem State.storeByte_mode (s : State) (a : Nat) (b : Byte) : (s.storeByte a b).mode = s.mode := rfl
@[simp] theorem State.storeByte_ie (s : State) (a : Nat) (b : Byte) : (s.storeByte a b).ie = s.ie := rfl
@[simp] theorem State.storeByte_pe (s : State) (a : Nat) (b : Byte) : (s.storeByte a b).pe = s.pe := rfl
@[simp] theorem State.storeByte_ptb (s : State) (a : Nat) (b : Byte) : (s.storeByte a b).ptb = s.ptb := rfl
@[simp] theorem State.storeByte_eha (s : State) (a : Nat) (b : Byte) : (s.storeByte a b).eha = s.eha := rfl
@[simp] theorem State.storeByte_epc (s : State) (a : Nat) (b : Byte) : (s.storeByte a b).epc = s.epc := rfl
@[simp] theorem State.storeByte_ec0 (s : State) (a : Nat) (b : Byte) : (s.storeByte a b).ec0 = s.ec0 := rfl
@[simp] theorem State.storeByte_ec1 (s : State) (a : Nat) (b : Byte) : (s.storeByte a b).ec1 = s.ec1 := rfl
@[simp] theorem State.storeByte_ec2 (s : State) (a : Nat) (b : Byte) : (s.storeByte a b).ec2 = s.ec2 := rfl
@[simp] theorem State.storeByte_ec3 (s : State) (a : Nat) (b : Byte) : (s.storeByte a b).ec3 = s.ec3 := rfl
@[simp] theorem State.storeByte_ea0 (s : State) (a : Nat) (b : Byte) : (s.storeByte a b).ea0 = s.ea0 := rfl
@[simp] theorem State.storeByte_ea1 (s : State) (a : Nat) (b : Byte) : (s.storeByte a b).ea1 = s.ea1 := rfl
@[simp] theorem State.storeByte_sp0 (s : State) (a : Nat) (b : Byte) : (s.storeByte a b).sp0 = s.sp0 := rfl
@[simp] theorem State.storeByte_sp1 (s : State) (a : Nat) (b : Byte) : (s.storeByte a b).sp1 = s.sp1 := rfl
@[simp] theorem State.storeByte_sp2 (s : State) (a : Nat) (b : Byte) : (s.storeByte a b).sp2 = s.sp2 := rfl
@[simp] theorem State.storeByte_sp3 (s : State) (a : Nat) (b : Byte) : (s.storeByte a b).sp3 = s.sp3 := rfl
@[simp] theorem State.storeByte_itlb (s : State) (a : Nat) (b : Byte) : (s.storeByte a b).itlb = s.itlb := rfl
@[simp] theorem State.storeByte_dtlb (s : State) (a : Nat) (b : Byte) : (s.storeByte a b).dtlb = s.dtlb := rfl
@[simp] theorem State.storeByte_mem (s : State) (a : Nat) (b : Byte) : (s.storeByte a b).mem = if s.isRam a then Memory.write s.mem a b else s.mem := rfl
@[simp] theorem State.storeByte_l2old (s : State) (a : Nat) (b : Byte) : (s.storeByte a b).l2old = if s.isRam a then remember s.l2old (a, Memory.read s.mem a) else s.l2old := rfl
@[simp] theorem State.storeByte_il1old (s : State) (a : Nat) (b : Byte) : (s.storeByte a b).il1old = s.il1old := rfl
@[simp] theorem State.storeByte_physMap (s : State) (a : Nat) (b : Byte) : (s.storeByte a b).physMap = s.physMap := rfl
@[simp] theorem State.storeByte_irqs (s : State) (a : Nat) (b : Byte) : (s.storeByte a b).irqs = s.irqs := rfl
@[simp] theorem State.storeByte_irqsThen (s : State) (a : Nat) (b : Byte) : (s.storeByte a b).irqsThen = s.irqsThen := rfl
@[simp] theorem State.storeByte_tick (s : State) (a : Nat) (b : Byte) : (s.storeByte a b).tick = s.tick := rfl

/-! ### Flushing a data line -/

@[simp] theorem State.flushData_regs (s : State) (a : Nat) : (s.flushData a).regs = s.regs := rfl
@[simp] theorem State.flushData_p0 (s : State) (a : Nat) : (s.flushData a).p0 = s.p0 := rfl
@[simp] theorem State.flushData_p1 (s : State) (a : Nat) : (s.flushData a).p1 = s.p1 := rfl
@[simp] theorem State.flushData_p2 (s : State) (a : Nat) : (s.flushData a).p2 = s.p2 := rfl
@[simp] theorem State.flushData_pc (s : State) (a : Nat) : (s.flushData a).pc = s.pc := rfl
@[simp] theorem State.flushData_ovf (s : State) (a : Nat) : (s.flushData a).ovf = s.ovf := rfl
@[simp] theorem State.flushData_link (s : State) (a : Nat) : (s.flushData a).link = s.link := rfl
@[simp] theorem State.flushData_mode (s : State) (a : Nat) : (s.flushData a).mode = s.mode := rfl
@[simp] theorem State.flushData_ie (s : State) (a : Nat) : (s.flushData a).ie = s.ie := rfl
@[simp] theorem State.flushData_pe (s : State) (a : Nat) : (s.flushData a).pe = s.pe := rfl
@[simp] theorem State.flushData_ptb (s : State) (a : Nat) : (s.flushData a).ptb = s.ptb := rfl
@[simp] theorem State.flushData_eha (s : State) (a : Nat) : (s.flushData a).eha = s.eha := rfl
@[simp] theorem State.flushData_epc (s : State) (a : Nat) : (s.flushData a).epc = s.epc := rfl
@[simp] theorem State.flushData_ec0 (s : State) (a : Nat) : (s.flushData a).ec0 = s.ec0 := rfl
@[simp] theorem State.flushData_ec1 (s : State) (a : Nat) : (s.flushData a).ec1 = s.ec1 := rfl
@[simp] theorem State.flushData_ec2 (s : State) (a : Nat) : (s.flushData a).ec2 = s.ec2 := rfl
@[simp] theorem State.flushData_ec3 (s : State) (a : Nat) : (s.flushData a).ec3 = s.ec3 := rfl
@[simp] theorem State.flushData_ea0 (s : State) (a : Nat) : (s.flushData a).ea0 = s.ea0 := rfl
@[simp] theorem State.flushData_ea1 (s : State) (a : Nat) : (s.flushData a).ea1 = s.ea1 := rfl
@[simp] theorem State.flushData_sp0 (s : State) (a : Nat) : (s.flushData a).sp0 = s.sp0 := rfl
@[simp] theorem State.flushData_sp1 (s : State) (a : Nat) : (s.flushData a).sp1 = s.sp1 := rfl
@[simp] theorem State.flushData_sp2 (s : State) (a : Nat) : (s.flushData a).sp2 = s.sp2 := rfl
@[simp] theorem State.flushData_sp3 (s : State) (a : Nat) : (s.flushData a).sp3 = s.sp3 := rfl
@[simp] theorem State.flushData_itlb (s : State) (a : Nat) : (s.flushData a).itlb = s.itlb := rfl
@[simp] theorem State.flushData_dtlb (s : State) (a : Nat) : (s.flushData a).dtlb = s.dtlb := rfl
@[simp] theorem State.flushData_mem (s : State) (a : Nat) : (s.flushData a).mem = s.mem := rfl
@[simp] theorem State.flushData_l2old (s : State) (a : Nat) : (s.flushData a).l2old = s.l2old.filter (fun o => !sameLine o.1 a) := rfl
@[simp] theorem State.flushData_il1old (s : State) (a : Nat) : (s.flushData a).il1old = (s.l2old.filter (fun o => sameLine o.1 a)).foldl remember s.il1old := rfl
@[simp] theorem State.flushData_physMap (s : State) (a : Nat) : (s.flushData a).physMap = s.physMap := rfl
@[simp] theorem State.flushData_irqs (s : State) (a : Nat) : (s.flushData a).irqs = s.irqs := rfl
@[simp] theorem State.flushData_irqsThen (s : State) (a : Nat) : (s.flushData a).irqsThen = s.irqsThen := rfl
@[simp] theorem State.flushData_tick (s : State) (a : Nat) : (s.flushData a).tick = s.tick := rfl

/-! ### Flushing an instruction line -/

@[simp] theorem State.flushInst_regs (s : State) (a : Nat) : (s.flushInst a).regs = s.regs := rfl
@[simp] theorem State.flushInst_p0 (s : State) (a : Nat) : (s.flushInst a).p0 = s.p0 := rfl
@[simp] theorem State.flushInst_p1 (s : State) (a : Nat) : (s.flushInst a).p1 = s.p1 := rfl
@[simp] theorem State.flushInst_p2 (s : State) (a : Nat) : (s.flushInst a).p2 = s.p2 := rfl
@[simp] theorem State.flushInst_pc (s : State) (a : Nat) : (s.flushInst a).pc = s.pc := rfl
@[simp] theorem State.flushInst_ovf (s : State) (a : Nat) : (s.flushInst a).ovf = s.ovf := rfl
@[simp] theorem State.flushInst_link (s : State) (a : Nat) : (s.flushInst a).link = s.link := rfl
@[simp] theorem State.flushInst_mode (s : State) (a : Nat) : (s.flushInst a).mode = s.mode := rfl
@[simp] theorem State.flushInst_ie (s : State) (a : Nat) : (s.flushInst a).ie = s.ie := rfl
@[simp] theorem State.flushInst_pe (s : State) (a : Nat) : (s.flushInst a).pe = s.pe := rfl
@[simp] theorem State.flushInst_ptb (s : State) (a : Nat) : (s.flushInst a).ptb = s.ptb := rfl
@[simp] theorem State.flushInst_eha (s : State) (a : Nat) : (s.flushInst a).eha = s.eha := rfl
@[simp] theorem State.flushInst_epc (s : State) (a : Nat) : (s.flushInst a).epc = s.epc := rfl
@[simp] theorem State.flushInst_ec0 (s : State) (a : Nat) : (s.flushInst a).ec0 = s.ec0 := rfl
@[simp] theorem State.flushInst_ec1 (s : State) (a : Nat) : (s.flushInst a).ec1 = s.ec1 := rfl
@[simp] theorem State.flushInst_ec2 (s : State) (a : Nat) : (s.flushInst a).ec2 = s.ec2 := rfl
@[simp] theorem State.flushInst_ec3 (s : State) (a : Nat) : (s.flushInst a).ec3 = s.ec3 := rfl
@[simp] theorem State.flushInst_ea0 (s : State) (a : Nat) : (s.flushInst a).ea0 = s.ea0 := rfl
@[simp] theorem State.flushInst_ea1 (s : State) (a : Nat) : (s.flushInst a).ea1 = s.ea1 := rfl
@[simp] theorem State.flushInst_sp0 (s : State) (a : Nat) : (s.flushInst a).sp0 = s.sp0 := rfl
@[simp] theorem State.flushInst_sp1 (s : State) (a : Nat) : (s.flushInst a).sp1 = s.sp1 := rfl
@[simp] theorem State.flushInst_sp2 (s : State) (a : Nat) : (s.flushInst a).sp2 = s.sp2 := rfl
@[simp] theorem State.flushInst_sp3 (s : State) (a : Nat) : (s.flushInst a).sp3 = s.sp3 := rfl
@[simp] theorem State.flushInst_itlb (s : State) (a : Nat) : (s.flushInst a).itlb = s.itlb := rfl
@[simp] theorem State.flushInst_dtlb (s : State) (a : Nat) : (s.flushInst a).dtlb = s.dtlb := rfl
@[simp] theorem State.flushInst_mem (s : State) (a : Nat) : (s.flushInst a).mem = s.mem := rfl
@[simp] theorem State.flushInst_l2old (s : State) (a : Nat) : (s.flushInst a).l2old = s.l2old := rfl
@[simp] theorem State.flushInst_il1old (s : State) (a : Nat) : (s.flushInst a).il1old = s.il1old.filter (fun o => !sameLine o.1 a) := rfl
@[simp] theorem State.flushInst_physMap (s : State) (a : Nat) : (s.flushInst a).physMap = s.physMap := rfl
@[simp] theorem State.flushInst_irqs (s : State) (a : Nat) : (s.flushInst a).irqs = s.irqs := rfl
@[simp] theorem State.flushInst_irqsThen (s : State) (a : Nat) : (s.flushInst a).irqsThen = s.irqsThen := rfl
@[simp] theorem State.flushInst_tick (s : State) (a : Nat) : (s.flushInst a).tick = s.tick := rfl

/-! ### Filling the data TLB -/

@[simp] theorem State.fillData_regs (s : State) (outs : List LaneOut) : (s.fillData outs).regs = s.regs := rfl
@[simp] theorem State.fillData_p0 (s : State) (outs : List LaneOut) : (s.fillData outs).p0 = s.p0 := rfl
@[simp] theorem State.fillData_p1 (s : State) (outs : List LaneOut) : (s.fillData outs).p1 = s.p1 := rfl
@[simp] theorem State.fillData_p2 (s : State) (outs : List LaneOut) : (s.fillData outs).p2 = s.p2 := rfl
@[simp] theorem State.fillData_pc (s : State) (outs : List LaneOut) : (s.fillData outs).pc = s.pc := rfl
@[simp] theorem State.fillData_ovf (s : State) (outs : List LaneOut) : (s.fillData outs).ovf = s.ovf := rfl
@[simp] theorem State.fillData_link (s : State) (outs : List LaneOut) : (s.fillData outs).link = s.link := rfl
@[simp] theorem State.fillData_mode (s : State) (outs : List LaneOut) : (s.fillData outs).mode = s.mode := rfl
@[simp] theorem State.fillData_ie (s : State) (outs : List LaneOut) : (s.fillData outs).ie = s.ie := rfl
@[simp] theorem State.fillData_pe (s : State) (outs : List LaneOut) : (s.fillData outs).pe = s.pe := rfl
@[simp] theorem State.fillData_ptb (s : State) (outs : List LaneOut) : (s.fillData outs).ptb = s.ptb := rfl
@[simp] theorem State.fillData_eha (s : State) (outs : List LaneOut) : (s.fillData outs).eha = s.eha := rfl
@[simp] theorem State.fillData_epc (s : State) (outs : List LaneOut) : (s.fillData outs).epc = s.epc := rfl
@[simp] theorem State.fillData_ec0 (s : State) (outs : List LaneOut) : (s.fillData outs).ec0 = s.ec0 := rfl
@[simp] theorem State.fillData_ec1 (s : State) (outs : List LaneOut) : (s.fillData outs).ec1 = s.ec1 := rfl
@[simp] theorem State.fillData_ec2 (s : State) (outs : List LaneOut) : (s.fillData outs).ec2 = s.ec2 := rfl
@[simp] theorem State.fillData_ec3 (s : State) (outs : List LaneOut) : (s.fillData outs).ec3 = s.ec3 := rfl
@[simp] theorem State.fillData_ea0 (s : State) (outs : List LaneOut) : (s.fillData outs).ea0 = s.ea0 := rfl
@[simp] theorem State.fillData_ea1 (s : State) (outs : List LaneOut) : (s.fillData outs).ea1 = s.ea1 := rfl
@[simp] theorem State.fillData_sp0 (s : State) (outs : List LaneOut) : (s.fillData outs).sp0 = s.sp0 := rfl
@[simp] theorem State.fillData_sp1 (s : State) (outs : List LaneOut) : (s.fillData outs).sp1 = s.sp1 := rfl
@[simp] theorem State.fillData_sp2 (s : State) (outs : List LaneOut) : (s.fillData outs).sp2 = s.sp2 := rfl
@[simp] theorem State.fillData_sp3 (s : State) (outs : List LaneOut) : (s.fillData outs).sp3 = s.sp3 := rfl
@[simp] theorem State.fillData_itlb (s : State) (outs : List LaneOut) : (s.fillData outs).itlb = s.itlb := rfl
@[simp] theorem State.fillData_dtlb (s : State) (outs : List LaneOut) : (s.fillData outs).dtlb = fillTlb s.dtlb (outs.flatMap LaneOut.fills) := rfl
@[simp] theorem State.fillData_mem (s : State) (outs : List LaneOut) : (s.fillData outs).mem = s.mem := rfl
@[simp] theorem State.fillData_l2old (s : State) (outs : List LaneOut) : (s.fillData outs).l2old = s.l2old := rfl
@[simp] theorem State.fillData_il1old (s : State) (outs : List LaneOut) : (s.fillData outs).il1old = s.il1old := rfl
@[simp] theorem State.fillData_physMap (s : State) (outs : List LaneOut) : (s.fillData outs).physMap = s.physMap := rfl
@[simp] theorem State.fillData_irqs (s : State) (outs : List LaneOut) : (s.fillData outs).irqs = s.irqs := rfl
@[simp] theorem State.fillData_irqsThen (s : State) (outs : List LaneOut) : (s.fillData outs).irqsThen = s.irqsThen := rfl
@[simp] theorem State.fillData_tick (s : State) (outs : List LaneOut) : (s.fillData outs).tick = s.tick := rfl

/-! ### Filling the instruction TLB -/

@[simp] theorem State.fillFetch_regs (s : State) (es : List TlbEntry) : (s.fillFetch es).regs = s.regs := rfl
@[simp] theorem State.fillFetch_p0 (s : State) (es : List TlbEntry) : (s.fillFetch es).p0 = s.p0 := rfl
@[simp] theorem State.fillFetch_p1 (s : State) (es : List TlbEntry) : (s.fillFetch es).p1 = s.p1 := rfl
@[simp] theorem State.fillFetch_p2 (s : State) (es : List TlbEntry) : (s.fillFetch es).p2 = s.p2 := rfl
@[simp] theorem State.fillFetch_pc (s : State) (es : List TlbEntry) : (s.fillFetch es).pc = s.pc := rfl
@[simp] theorem State.fillFetch_ovf (s : State) (es : List TlbEntry) : (s.fillFetch es).ovf = s.ovf := rfl
@[simp] theorem State.fillFetch_link (s : State) (es : List TlbEntry) : (s.fillFetch es).link = s.link := rfl
@[simp] theorem State.fillFetch_mode (s : State) (es : List TlbEntry) : (s.fillFetch es).mode = s.mode := rfl
@[simp] theorem State.fillFetch_ie (s : State) (es : List TlbEntry) : (s.fillFetch es).ie = s.ie := rfl
@[simp] theorem State.fillFetch_pe (s : State) (es : List TlbEntry) : (s.fillFetch es).pe = s.pe := rfl
@[simp] theorem State.fillFetch_ptb (s : State) (es : List TlbEntry) : (s.fillFetch es).ptb = s.ptb := rfl
@[simp] theorem State.fillFetch_eha (s : State) (es : List TlbEntry) : (s.fillFetch es).eha = s.eha := rfl
@[simp] theorem State.fillFetch_epc (s : State) (es : List TlbEntry) : (s.fillFetch es).epc = s.epc := rfl
@[simp] theorem State.fillFetch_ec0 (s : State) (es : List TlbEntry) : (s.fillFetch es).ec0 = s.ec0 := rfl
@[simp] theorem State.fillFetch_ec1 (s : State) (es : List TlbEntry) : (s.fillFetch es).ec1 = s.ec1 := rfl
@[simp] theorem State.fillFetch_ec2 (s : State) (es : List TlbEntry) : (s.fillFetch es).ec2 = s.ec2 := rfl
@[simp] theorem State.fillFetch_ec3 (s : State) (es : List TlbEntry) : (s.fillFetch es).ec3 = s.ec3 := rfl
@[simp] theorem State.fillFetch_ea0 (s : State) (es : List TlbEntry) : (s.fillFetch es).ea0 = s.ea0 := rfl
@[simp] theorem State.fillFetch_ea1 (s : State) (es : List TlbEntry) : (s.fillFetch es).ea1 = s.ea1 := rfl
@[simp] theorem State.fillFetch_sp0 (s : State) (es : List TlbEntry) : (s.fillFetch es).sp0 = s.sp0 := rfl
@[simp] theorem State.fillFetch_sp1 (s : State) (es : List TlbEntry) : (s.fillFetch es).sp1 = s.sp1 := rfl
@[simp] theorem State.fillFetch_sp2 (s : State) (es : List TlbEntry) : (s.fillFetch es).sp2 = s.sp2 := rfl
@[simp] theorem State.fillFetch_sp3 (s : State) (es : List TlbEntry) : (s.fillFetch es).sp3 = s.sp3 := rfl
@[simp] theorem State.fillFetch_itlb (s : State) (es : List TlbEntry) : (s.fillFetch es).itlb = fillTlb s.itlb es := rfl
@[simp] theorem State.fillFetch_dtlb (s : State) (es : List TlbEntry) : (s.fillFetch es).dtlb = s.dtlb := rfl
@[simp] theorem State.fillFetch_mem (s : State) (es : List TlbEntry) : (s.fillFetch es).mem = s.mem := rfl
@[simp] theorem State.fillFetch_l2old (s : State) (es : List TlbEntry) : (s.fillFetch es).l2old = s.l2old := rfl
@[simp] theorem State.fillFetch_il1old (s : State) (es : List TlbEntry) : (s.fillFetch es).il1old = s.il1old := rfl
@[simp] theorem State.fillFetch_physMap (s : State) (es : List TlbEntry) : (s.fillFetch es).physMap = s.physMap := rfl
@[simp] theorem State.fillFetch_irqs (s : State) (es : List TlbEntry) : (s.fillFetch es).irqs = s.irqs := rfl
@[simp] theorem State.fillFetch_irqsThen (s : State) (es : List TlbEntry) : (s.fillFetch es).irqsThen = s.irqsThen := rfl
@[simp] theorem State.fillFetch_tick (s : State) (es : List TlbEntry) : (s.fillFetch es).tick = s.tick := rfl

/-! ### Passing a packet boundary -/

@[simp] theorem State.passBoundary_regs (s : State)  : (s.passBoundary).regs = s.regs := rfl
@[simp] theorem State.passBoundary_p0 (s : State)  : (s.passBoundary).p0 = s.p0 := rfl
@[simp] theorem State.passBoundary_p1 (s : State)  : (s.passBoundary).p1 = s.p1 := rfl
@[simp] theorem State.passBoundary_p2 (s : State)  : (s.passBoundary).p2 = s.p2 := rfl
@[simp] theorem State.passBoundary_pc (s : State)  : (s.passBoundary).pc = s.pc := rfl
@[simp] theorem State.passBoundary_ovf (s : State)  : (s.passBoundary).ovf = s.ovf := rfl
@[simp] theorem State.passBoundary_link (s : State)  : (s.passBoundary).link = s.link := rfl
@[simp] theorem State.passBoundary_mode (s : State)  : (s.passBoundary).mode = s.mode := rfl
@[simp] theorem State.passBoundary_ie (s : State)  : (s.passBoundary).ie = s.ie := rfl
@[simp] theorem State.passBoundary_pe (s : State)  : (s.passBoundary).pe = s.pe := rfl
@[simp] theorem State.passBoundary_ptb (s : State)  : (s.passBoundary).ptb = s.ptb := rfl
@[simp] theorem State.passBoundary_eha (s : State)  : (s.passBoundary).eha = s.eha := rfl
@[simp] theorem State.passBoundary_epc (s : State)  : (s.passBoundary).epc = s.epc := rfl
@[simp] theorem State.passBoundary_ec0 (s : State)  : (s.passBoundary).ec0 = s.ec0 := rfl
@[simp] theorem State.passBoundary_ec1 (s : State)  : (s.passBoundary).ec1 = s.ec1 := rfl
@[simp] theorem State.passBoundary_ec2 (s : State)  : (s.passBoundary).ec2 = s.ec2 := rfl
@[simp] theorem State.passBoundary_ec3 (s : State)  : (s.passBoundary).ec3 = s.ec3 := rfl
@[simp] theorem State.passBoundary_ea0 (s : State)  : (s.passBoundary).ea0 = s.ea0 := rfl
@[simp] theorem State.passBoundary_ea1 (s : State)  : (s.passBoundary).ea1 = s.ea1 := rfl
@[simp] theorem State.passBoundary_sp0 (s : State)  : (s.passBoundary).sp0 = s.sp0 := rfl
@[simp] theorem State.passBoundary_sp1 (s : State)  : (s.passBoundary).sp1 = s.sp1 := rfl
@[simp] theorem State.passBoundary_sp2 (s : State)  : (s.passBoundary).sp2 = s.sp2 := rfl
@[simp] theorem State.passBoundary_sp3 (s : State)  : (s.passBoundary).sp3 = s.sp3 := rfl
@[simp] theorem State.passBoundary_itlb (s : State)  : (s.passBoundary).itlb = s.itlb := rfl
@[simp] theorem State.passBoundary_dtlb (s : State)  : (s.passBoundary).dtlb = s.dtlb := rfl
@[simp] theorem State.passBoundary_mem (s : State)  : (s.passBoundary).mem = s.mem := rfl
@[simp] theorem State.passBoundary_l2old (s : State)  : (s.passBoundary).l2old = s.l2old := rfl
@[simp] theorem State.passBoundary_il1old (s : State)  : (s.passBoundary).il1old = s.il1old := rfl
@[simp] theorem State.passBoundary_physMap (s : State)  : (s.passBoundary).physMap = s.physMap := rfl
@[simp] theorem State.passBoundary_irqs (s : State)  : (s.passBoundary).irqs = s.irqs.tail := rfl
@[simp] theorem State.passBoundary_irqsThen (s : State)  : (s.passBoundary).irqsThen = s.irqsThen := rfl
@[simp] theorem State.passBoundary_tick (s : State)  : (s.passBoundary).tick = s.tick := rfl

/-! ### Taking an exception -/

@[simp] theorem trapEntry_regs (x0 x1 x2 x3 : Option Exc) (int : BitVec 2) (s : State) :
    (trapEntry x0 x1 x2 x3 int s).regs = s.regs := rfl
@[simp] theorem trapEntry_p0 (x0 x1 x2 x3 : Option Exc) (int : BitVec 2) (s : State) :
    (trapEntry x0 x1 x2 x3 int s).p0 = s.p0 := rfl
@[simp] theorem trapEntry_p1 (x0 x1 x2 x3 : Option Exc) (int : BitVec 2) (s : State) :
    (trapEntry x0 x1 x2 x3 int s).p1 = s.p1 := rfl
@[simp] theorem trapEntry_p2 (x0 x1 x2 x3 : Option Exc) (int : BitVec 2) (s : State) :
    (trapEntry x0 x1 x2 x3 int s).p2 = s.p2 := rfl
@[simp] theorem trapEntry_pc (x0 x1 x2 x3 : Option Exc) (int : BitVec 2) (s : State) :
    (trapEntry x0 x1 x2 x3 int s).pc = s.eha &&& 0xFFFFFFF0#32 := rfl
@[simp] theorem trapEntry_ovf (x0 x1 x2 x3 : Option Exc) (int : BitVec 2) (s : State) :
    (trapEntry x0 x1 x2 x3 int s).ovf = s.ovf := rfl
@[simp] theorem trapEntry_link (x0 x1 x2 x3 : Option Exc) (int : BitVec 2) (s : State) :
    (trapEntry x0 x1 x2 x3 int s).link = false := rfl
@[simp] theorem trapEntry_mode (x0 x1 x2 x3 : Option Exc) (int : BitVec 2) (s : State) :
    (trapEntry x0 x1 x2 x3 int s).mode = .kernel := rfl
@[simp] theorem trapEntry_ie (x0 x1 x2 x3 : Option Exc) (int : BitVec 2) (s : State) :
    (trapEntry x0 x1 x2 x3 int s).ie = false := rfl
@[simp] theorem trapEntry_pe (x0 x1 x2 x3 : Option Exc) (int : BitVec 2) (s : State) :
    (trapEntry x0 x1 x2 x3 int s).pe = s.pe := rfl
@[simp] theorem trapEntry_ptb (x0 x1 x2 x3 : Option Exc) (int : BitVec 2) (s : State) :
    (trapEntry x0 x1 x2 x3 int s).ptb = s.ptb := rfl
@[simp] theorem trapEntry_eha (x0 x1 x2 x3 : Option Exc) (int : BitVec 2) (s : State) :
    (trapEntry x0 x1 x2 x3 int s).eha = s.eha := rfl
@[simp] theorem trapEntry_epc (x0 x1 x2 x3 : Option Exc) (int : BitVec 2) (s : State) :
    (trapEntry x0 x1 x2 x3 int s).epc = s.epcImage := rfl
@[simp] theorem trapEntry_ec0 (x0 x1 x2 x3 : Option Exc) (int : BitVec 2) (s : State) :
    (trapEntry x0 x1 x2 x3 int s).ec0 = errorCode s.tick 0 x0 int := rfl
@[simp] theorem trapEntry_ec1 (x0 x1 x2 x3 : Option Exc) (int : BitVec 2) (s : State) :
    (trapEntry x0 x1 x2 x3 int s).ec1 = errorCode s.tick 1 x1 0b00#2 := rfl
@[simp] theorem trapEntry_ec2 (x0 x1 x2 x3 : Option Exc) (int : BitVec 2) (s : State) :
    (trapEntry x0 x1 x2 x3 int s).ec2 = errorCode s.tick 2 x2 0b00#2 := rfl
@[simp] theorem trapEntry_ec3 (x0 x1 x2 x3 : Option Exc) (int : BitVec 2) (s : State) :
    (trapEntry x0 x1 x2 x3 int s).ec3 = errorCode s.tick 3 x3 0b00#2 := rfl
@[simp] theorem trapEntry_ea0 (x0 x1 x2 x3 : Option Exc) (int : BitVec 2) (s : State) :
    (trapEntry x0 x1 x2 x3 int s).ea0 = newEa s.ea0 x0 := rfl
@[simp] theorem trapEntry_ea1 (x0 x1 x2 x3 : Option Exc) (int : BitVec 2) (s : State) :
    (trapEntry x0 x1 x2 x3 int s).ea1 = newEa s.ea1 x1 := rfl
@[simp] theorem trapEntry_sp0 (x0 x1 x2 x3 : Option Exc) (int : BitVec 2) (s : State) :
    (trapEntry x0 x1 x2 x3 int s).sp0 = s.sp0 := rfl
@[simp] theorem trapEntry_sp1 (x0 x1 x2 x3 : Option Exc) (int : BitVec 2) (s : State) :
    (trapEntry x0 x1 x2 x3 int s).sp1 = s.sp1 := rfl
@[simp] theorem trapEntry_sp2 (x0 x1 x2 x3 : Option Exc) (int : BitVec 2) (s : State) :
    (trapEntry x0 x1 x2 x3 int s).sp2 = s.sp2 := rfl
@[simp] theorem trapEntry_sp3 (x0 x1 x2 x3 : Option Exc) (int : BitVec 2) (s : State) :
    (trapEntry x0 x1 x2 x3 int s).sp3 = s.sp3 := rfl
@[simp] theorem trapEntry_itlb (x0 x1 x2 x3 : Option Exc) (int : BitVec 2) (s : State) :
    (trapEntry x0 x1 x2 x3 int s).itlb = s.itlb := rfl
@[simp] theorem trapEntry_dtlb (x0 x1 x2 x3 : Option Exc) (int : BitVec 2) (s : State) :
    (trapEntry x0 x1 x2 x3 int s).dtlb = s.dtlb := rfl
@[simp] theorem trapEntry_mem (x0 x1 x2 x3 : Option Exc) (int : BitVec 2) (s : State) :
    (trapEntry x0 x1 x2 x3 int s).mem = s.mem := rfl
@[simp] theorem trapEntry_l2old (x0 x1 x2 x3 : Option Exc) (int : BitVec 2) (s : State) :
    (trapEntry x0 x1 x2 x3 int s).l2old = s.l2old := rfl
@[simp] theorem trapEntry_il1old (x0 x1 x2 x3 : Option Exc) (int : BitVec 2) (s : State) :
    (trapEntry x0 x1 x2 x3 int s).il1old = s.il1old := rfl
@[simp] theorem trapEntry_physMap (x0 x1 x2 x3 : Option Exc) (int : BitVec 2) (s : State) :
    (trapEntry x0 x1 x2 x3 int s).physMap = s.physMap := rfl
@[simp] theorem trapEntry_irqs (x0 x1 x2 x3 : Option Exc) (int : BitVec 2) (s : State) :
    (trapEntry x0 x1 x2 x3 int s).irqs = s.irqs := rfl
@[simp] theorem trapEntry_irqsThen (x0 x1 x2 x3 : Option Exc) (int : BitVec 2) (s : State) :
    (trapEntry x0 x1 x2 x3 int s).irqsThen = s.irqsThen := rfl
@[simp] theorem trapEntry_tick (x0 x1 x2 x3 : Option Exc) (int : BitVec 2) (s : State) :
    (trapEntry x0 x1 x2 x3 int s).tick = s.tick + 1 := rfl

/-! ### Reading back -/

@[simp] theorem State.reg_setReg_same (s : State) (r : Reg) (v : Word) : (s.setReg r v).reg r = v := by
  change (s.regs.set r v)[r.val] = v
  simp

theorem State.reg_setReg_other (s : State) (r q : Reg) (v : Word) (h : q ≠ r) : (s.setReg r v).reg q = s.reg q := by
  have : r.val ≠ q.val := fun e => h (Fin.ext e.symm)
  change (s.regs.set r v)[q.val] = s.regs[q.val]
  simp [this]

@[simp] theorem State.predReg_three (s : State) : s.predReg 3 = true := rfl

@[simp] theorem State.setPredReg_three (s : State) (b : Bool) : s.setPredReg 3 b = s := rfl

theorem State.predReg_setPredReg_same (s : State) (n : PredReg) (b : Bool) (h : n ≠ 3) : (s.setPredReg n b).predReg n = b := by
  match n with
  | 0 => rfl
  | 1 => rfl
  | 2 => rfl
  | 3 => exact absurd rfl h

theorem State.predReg_setPredReg_other (s : State) (n q : PredReg) (b : Bool) (h : q ≠ n) :
    (s.setPredReg n b).predReg q = s.predReg q := by
  match n, q with
  | 0, 0 => exact absurd rfl h
  | 0, 1 => rfl
  | 0, 2 => rfl
  | 0, 3 => rfl
  | 1, 0 => rfl
  | 1, 1 => exact absurd rfl h
  | 1, 2 => rfl
  | 1, 3 => rfl
  | 2, 0 => rfl
  | 2, 1 => rfl
  | 2, 2 => exact absurd rfl h
  | 2, 3 => rfl
  | 3, _ => rfl

end Sys2Proof.Machine
end

