-- ==== Sys2Proof/Laws/Memory.lean ====
section
/-! SUPPORT. The laws of memory: reading after writing, and that every memory operation keeps the canonical form and the
range of addresses that exist. -/
namespace Sys2Proof.Machine

/-! ## One byte -/

theorem Memory.read_write_same (m : Memory) (a : Nat) (b : Byte) : Memory.read (Memory.write m a b) a = some b := by
  induction m with
  | nil => simp [Memory.write, Memory.read]
  | cons x m ih =>
    obtain ⟨k, c⟩ := x
    simp only [Memory.write]
    split
    · simp [Memory.read]
    · split
      · simp [Memory.read]
      · rename_i h1 h2
        simp [Memory.read, h2, ih]

theorem Memory.read_write_other (m : Memory) (a q : Nat) (b : Byte) (h : q ≠ a) :
    Memory.read (Memory.write m a b) q = Memory.read m q := by
  induction m with
  | nil => simp [Memory.write, Memory.read, h]
  | cons x m ih =>
    obtain ⟨k, c⟩ := x
    simp only [Memory.write]
    split
    · simp [Memory.read, h]
    · split
      · rename_i h1 h2
        subst h2
        simp [Memory.read, h]
      · simp only [Memory.read, ih]

/-- A bound below every address of a canonical memory. -/
def Memory.above (k : Nat) : Memory → Prop
  | [] => True
  | x :: _ => k < x.1

theorem Memory.wf_cons (x : Host.Cell) (m : Memory) : Memory.wf (x :: m) = true ↔ Memory.above x.1 m ∧ Memory.wf m = true := by
  cases m with
  | nil => simp [Memory.wf, Memory.above]
  | cons y m => simp [Memory.wf, Memory.above]

theorem Memory.above_write (k : Nat) (m : Memory) (a : Nat) (b : Byte) (hm : Memory.above k m) (ha : k < a) :
    Memory.above k (Memory.write m a b) := by
  cases m with
  | nil => simpa [Memory.write, Memory.above] using ha
  | cons x m =>
    obtain ⟨j, c⟩ := x
    simp only [Memory.write]
    split
    · simpa [Memory.above] using ha
    · split
      · simpa [Memory.above] using ha
      · simpa [Memory.above] using hm

theorem Memory.wf_write (m : Memory) (a : Nat) (b : Byte) (h : Memory.wf m = true) : Memory.wf (Memory.write m a b) = true := by
  induction m with
  | nil => simp [Memory.write, Memory.wf]
  | cons x m ih =>
    obtain ⟨k, c⟩ := x
    rw [Memory.wf_cons] at h
    simp only [Memory.write]
    split
    · rename_i hlt
      rw [Memory.wf_cons]
      exact ⟨by simpa [Memory.above] using hlt, (Memory.wf_cons _ _).mpr h⟩
    · split
      · rename_i hne heq
        subst heq
        exact (Memory.wf_cons _ _).mpr h
      · rename_i h1 h2
        rw [Memory.wf_cons]
        exact ⟨Memory.above_write k m a b h.1 (by omega), ih h.2⟩

theorem Memory.all_write (f : Host.Cell → Bool) (m : Memory) (a : Nat) (b : Byte) (h : m.all f = true) (ha : f (a, b) = true) :
    (Memory.write m a b).all f = true := by
  induction m with
  | nil => simp [Memory.write, ha]
  | cons x m ih =>
    obtain ⟨k, c⟩ := x
    simp only [List.all_cons, Bool.and_eq_true] at h
    simp only [Memory.write]
    split
    · simp only [List.all_cons, Bool.and_eq_true]; exact ⟨ha, h⟩
    · split
      · simp only [List.all_cons, Bool.and_eq_true]; exact ⟨ha, h.2⟩
      · simp only [List.all_cons, Bool.and_eq_true]; exact ⟨h.1, ih h.2⟩

/-! ## What stands at an address -/

/-- Where RAM stands, the data view shows what memory holds. -/
theorem dataByte_of_ram (s : State) (id a : Nat) (h : s.isRam a = true) : s.dataByte id a = Memory.read s.mem a := by
  simp [State.dataByte, h]

/-- An address exists if a range of PhysMap covers it (20_memory.md R74). -/
theorem physValid_iff (s : State) (a : Nat) :
    s.physValid a = true ↔ ∃ g ∈ s.physMap, g.first ≤ a ∧ a < g.first + g.size := by
  simp [State.physValid, State.physKind, PhysRegion.covers]

/-- RAM stands only at addresses that exist. -/
theorem physValid_of_ram {s : State} {a : Nat} (h : s.isRam a = true) : s.physValid a = true := by
  have : s.physKind a = some .ram := by simpa [State.isRam] using h
  simp [State.physValid, this]

/-! ## Stores of several bytes -/

@[simp] theorem storeByte_isRam (s : State) (a q : Nat) (b : Byte) : (s.storeByte a b).isRam q = s.isRam q := rfl

/-- The bytes a store of `n` bytes leaves in memory: those of the value inside RAM, the old ones elsewhere
(20_memory.md R61, R75). -/
theorem read_storeBytes (n : Nat) : ∀ (s : State) (a : Nat) (v : Word) (q : Nat),
    Memory.read (s.storeBytes a n v).mem q =
      if a ≤ q ∧ q < a + n ∧ s.isRam q = true then some ((v >>> (8 * (q - a))).setWidth 8) else Memory.read s.mem q := by
  induction n with
  | zero => intro s a v q; simp [State.storeBytes]; omega
  | succ n ih =>
    intro s a v q
    rw [State.storeBytes, ih]
    change (if a + 1 ≤ q ∧ q < a + 1 + n ∧ s.isRam q = true then _ else _) = _
    by_cases h1 : a + 1 ≤ q ∧ q < a + 1 + n ∧ s.isRam q = true
    · have h2 : a ≤ q ∧ q < a + (n + 1) ∧ s.isRam q = true := ⟨by omega, by omega, h1.2.2⟩
      rw [if_pos h1, if_pos h2]
      obtain ⟨d, rfl⟩ : ∃ d, q = a + 1 + d := ⟨q - (a + 1), by omega⟩
      have e1 : a + 1 + d - (a + 1) = d := by omega
      have e2 : 8 * (a + 1 + d - a) = 8 + 8 * d := by omega
      rw [e1, e2, BitVec.shiftRight_add]
    · rw [if_neg h1]
      simp only [State.storeByte_mem]
      by_cases h2 : q = a
      · subst h2
        by_cases hd : s.isRam q = true
        · simp [hd, Memory.read_write_same]
        · simp [hd]
      · have h3 : ¬ (a ≤ q ∧ q < a + (n + 1) ∧ s.isRam q = true) := by
          rintro ⟨h4, h5, h6⟩
          exact h1 ⟨by omega, by omega, h6⟩
        rw [if_neg h3]
        split
        · exact Memory.read_write_other _ _ _ _ h2
        · rfl

theorem wf_storeBytes (n : Nat) : ∀ (s : State) (a : Nat) (v : Word), Memory.wf s.mem = true →
    Memory.wf (s.storeBytes a n v).mem = true := by
  induction n with
  | zero => intro s a v h; exact h
  | succ n ih =>
    intro s a v h
    refine ih _ _ _ ?_
    simp only [State.storeByte_mem]
    split
    · exact Memory.wf_write _ _ _ h
    · exact h

/-- A store keeps what memory lists in RAM. -/
theorem memInRam_storeBytes (n : Nat) : ∀ (s : State) (a : Nat) (v : Word), s.memInRam = true →
    (s.storeBytes a n v).memInRam = true := by
  induction n with
  | zero => intro s a v h; exact h
  | succ n ih =>
    intro s a v h
    refine ih _ _ _ ?_
    unfold State.memInRam at h ⊢
    simp only [State.storeByte_mem, storeByte_isRam]
    split
    · rename_i hr
      exact Memory.all_write _ _ _ _ h hr
    · exact h

/-- A store of several bytes changes memory and what the L2 view may hold, and nothing else. -/
theorem storeBytes_frame (n : Nat) : ∀ (s : State) (a : Nat) (v : Word),
    s.storeBytes a n v = { s with mem := (s.storeBytes a n v).mem, l2old := (s.storeBytes a n v).l2old } := by
  induction n with
  | zero => intro s a v; rfl
  | succ n ih =>
    intro s a v
    simp only [State.storeBytes]
    rw [ih]
    simp only [State.storeByte]

/-- What a set of older bytes holds after one more. -/
@[simp] theorem mem_remember (l : List OldByte) (o x : OldByte) : x ∈ remember l o ↔ x = o ∨ x ∈ l := by
  unfold remember
  split
  · rename_i h
    simp only [List.contains_iff_mem] at h
    exact ⟨.inr, fun h1 => h1.elim (· ▸ h) id⟩
  · simp

/-- What a store of several bytes adds to the older bytes of the L2 view: those it replaces in RAM (20_memory.md R98). -/
theorem mem_l2old_storeBytes (n : Nat) : ∀ (s : State) (a : Nat) (v : Word) (o : OldByte),
    o ∈ (s.storeBytes a n v).l2old ↔
      o ∈ s.l2old ∨ (a ≤ o.1 ∧ o.1 < a + n ∧ s.isRam o.1 = true ∧ o.2 = Memory.read s.mem o.1) := by
  induction n with
  | zero => intro s a v o; simp [State.storeBytes]; omega
  | succ n ih =>
    intro s a v o
    obtain ⟨q, c⟩ := o
    simp only [State.storeBytes, ih, storeByte_isRam, State.storeByte_l2old, State.storeByte_mem]
    by_cases hq : q = a
    · subst hq
      by_cases hr : s.isRam q = true
      · simp [hr]
        exact or_comm
      · simp [hr]
    · have hrange : (a < q ∧ q < a + 1 + n) ↔ (a ≤ q ∧ q < a + (n + 1)) := by omega
      by_cases hr : s.isRam a = true
      · simp [hr, Memory.read_write_other _ _ _ _ hq, hq]
        exact or_congr_right (by rw [← and_assoc, hrange, and_assoc])
      · simp [hr]
        exact or_congr_right (by rw [← and_assoc, hrange, and_assoc])

/-! ## The state after reset -/

theorem reset_memory_wf : Memory.wf State.reset.mem = true := rfl

end Sys2Proof.Machine
end

