-- ==== Sys2Proof/Laws/Ops.lean ====
section
/-! SUPPORT. For each shared operation, once, everything it can do. -/
namespace Sys2Proof.Machine

/-! ## The bridge from an instruction to its lane -/

/-- Every meaning is the packet that holds its lane alone. -/
theorem exec_eq_runAlone (i : Instr) (s : State) : exec i s = runAlone i.pred i.kernelOnly (laneOf i) s := by
  cases i <;> rfl

/-! ## The end of a packet with one lane -/

@[simp] theorem fillTlb_nil (l : List TlbEntry) : fillTlb l [] = l := rfl

/-- The commit of a packet whose one lane queues writes. -/
theorem commit_one (ws : List Write) (acc : Option Access) (fills : List TlbEntry) (s : State) :
    commit [.done ws acc fills] s =
      State.applyAll { s with dtlb := fillTlb s.dtlb fills, pc := s.pc + 16#32, tick := s.tick + 1 } ws := by
  simp [commit, State.fillData, LaneOut.fills, LaneOut.queue]

/-- A packet of one lane that queues writes commits. -/
theorem finish_done (ws : List Write) (acc : Option Access) (fills : List TlbEntry) (s : State) :
    finish [.done ws acc fills] s =
      .next (State.applyAll { s with dtlb := fillTlb s.dtlb fills, pc := s.pc + 16#32, tick := s.tick + 1 } ws) := by
  rw [← commit_one]
  cases acc <;> rfl

/-- A packet of one lane that raises takes the exception. -/
theorem finish_raised (x : Exc) (fills : List TlbEntry) (s : State) :
    finish [.raised x fills] s =
      .next (trapEntry (some x) none none none 0b00#2 { s with dtlb := fillTlb s.dtlb fills }) := by
  simp [finish, firstStop, LaneOut.access, LaneOut.exc, trapPacket, survivingStores, survivingStoresFrom, survivingStore,
    LaneOut.cancels, LaneOut.queue,
    State.applyAll, State.fillData, LaneOut.fills]
  rfl

@[simp] theorem finish_fault (f : Fault) (s : State) : finish [.fault f] s = .fault f := rfl

@[simp] theorem finish_refused (r : Refusal) (s : State) : finish [.refused r] s = .refused r := rfl

theorem finish_writes (ws : List Write) (s : State) :
    finish [.writes ws] s = .next (State.applyAll { s with pc := s.pc + 16#32, tick := s.tick + 1 } ws) :=
  finish_done ws none [] s

theorem finish_idle (s : State) : finish [.idle] s = .next { s with pc := s.pc + 16#32, tick := s.tick + 1 } :=
  finish_done [] none [] s

theorem finish_raise (c : ExcCode) (s : State) :
    finish [.raise c] s = .next (trapEntry (some ⟨c, none⟩) none none none 0b00#2 s) :=
  finish_raised ⟨c, none⟩ [] s

/-! ## The stores of a trapping packet -/

/-- The stores that survive from lane `k` on: those queued by lanes whose stores FAULT_PACKET_STORE lets through
(40_packet_and_operands.md R169; log 13). -/
theorem mem_survivingStoresFrom (tick : Nat) (w : Write) (outs : List LaneOut) (k : Nat) :
    w ∈ survivingStoresFrom tick k outs ↔
      ∃ j o, outs[j]? = some o ∧ w ∈ o.queue ∧ w.isStore = true ∧ Config.faultPacketStore tick (k + j) = true := by
  have one : ∀ (j : Nat) (o : LaneOut), w ∈ survivingStore tick j o ↔
      w ∈ o.queue ∧ w.isStore = true ∧ Config.faultPacketStore tick j = true := by
    intro j o
    have h : survivingStore tick j o =
        if Config.faultPacketStore tick j then o.queue.filter Write.isStore else [] := by
      unfold survivingStore
      split <;> cases Config.faultPacketStore tick j <;> simp_all
    rw [h]
    split <;> simp_all
  induction outs generalizing k with
  | nil => simp [survivingStoresFrom]
  | cons o outs ih =>
    rw [survivingStoresFrom, List.mem_append, one, propext (ih (k + 1))]
    constructor
    · rintro (h | ⟨j, x, hx, h1, h2, h3⟩)
      · exact ⟨0, o, rfl, h⟩
      · exact ⟨j + 1, x, hx, h1, h2, by rwa [show k + (j + 1) = k + 1 + j by omega]⟩
    · rintro ⟨j, x, hx, h1, h2, h3⟩
      cases j with
      | zero =>
        injection hx with hx
        exact .inl ⟨hx ▸ h1, h2, h3⟩
      | succ j => exact .inr ⟨j, x, hx, h1, h2, by rwa [show k + 1 + j = k + (j + 1) by omega]⟩

/-! ## A lane on its own -/

/-- A false predicate: the pc advances and nothing else happens (40_packet_and_operands.md R165). -/
theorem runAlone_of_not_holds (p : Pred) (ko : Bool) (lane : Nat → State → LaneOut) (s : State) (h : s.holds p = false) :
    runAlone p ko lane s = .next { s with pc := s.pc + 16#32, tick := s.tick + 1 } := by
  simp [runAlone, guardLane, h, finish_idle]

/-- A kernel-only instruction in user mode raises Illegal Instruction (60_exceptions.md R350). -/
theorem runAlone_of_user (p : Pred) (lane : Nat → State → LaneOut) (s : State) (h : s.holds p = true) (hm : s.mode = .user) :
    runAlone p true lane s = .next (trapEntry (some ⟨.illegalInstruction, none⟩) none none none 0b00#2 s) := by
  simp [runAlone, guardLane, h, hm, finish_raise]

/-- A true predicate and the mode that may run it: the end of the packet with what the lane yields. -/
theorem runAlone_of_holds (p : Pred) (ko : Bool) (lane : Nat → State → LaneOut) (s : State) (h : s.holds p = true)
    (hm : ko = true → s.mode = .kernel) : runAlone p ko lane s = finish [lane 0 s] s := by
  cases ko with
  | false => simp [runAlone, guardLane, h]
  | true => simp [runAlone, guardLane, h, hm rfl]

/-! ## The end of a packet with any lanes -/

/-- A stop of a lane is no next state. -/
theorem firstStop_ne_next (outs : List LaneOut) (t : State) : firstStop outs ≠ some (.next t) := by
  induction outs with
  | nil => simp [firstStop]
  | cons o outs ih => cases o <;> simp [firstStop, ih]

/-- A next state at the end of a packet is the commit of its lanes, none of which raised, or trap entry. -/
theorem finish_cases {outs : List LaneOut} {s t : State} (h : finish outs s = .next t) :
    firstStop outs = none ∧ anyConflict (outs.filterMap LaneOut.access) = false ∧
      ((outs.any (fun o => o.exc.isSome) = true ∧ t = trapPacket outs s) ∨
       (outs.any (fun o => o.exc.isSome) = false ∧ t = commit outs s)) := by
  unfold finish at h
  split at h
  · rename_i stop hs
    exact absurd (h ▸ hs) (firstStop_ne_next outs t)
  · rename_i hs
    split at h
    · cases h
    · rename_i hc
      split at h
      · rename_i hx
        injection h with h
        exact ⟨hs, by simpa using hc, .inl ⟨hx, h.symm⟩⟩
      · rename_i hx
        injection h with h
        exact ⟨hs, by simpa using hc, .inr ⟨by simpa using hx, h.symm⟩⟩

/-- A packet's next state: no refusal by its destinations, and the end of its lanes. -/
theorem runPacket_cases {slots : List Slot} {s t : State} (h : runPacket slots s = .next t) :
    packetRefusal (lanesFrom 0 slots) s = none ∧ finish (runSlots (lanesFrom 0 slots) s 0 slots) s = .next t := by
  unfold runPacket at h
  split at h
  · cases h
  · rename_i hr
    exact ⟨hr, h⟩

/-! ## Translation -/

/-- A successful translation gives an address that exists and keeps the page offset (20_memory.md R80). -/
theorem translate_ok {s : State} {port : Nat} {kind : AccessKind} {va : Word} {pa : Nat} {fills : List TlbEntry}
    (h : s.translate port kind va = .ok pa fills) : s.physValid pa = true ∧ pa % 4096 = va.toNat % 4096 := by
  unfold State.translate at h
  split at h
  · split at h
    · cases h
    · cases h
    · split at h
      · rename_i e _ _
        dsimp only at h
        split at h
        · rename_i hv
          injection h with h1 h2
          subst h1
          refine ⟨hv, ?_⟩
          rw [BitVec.toNat_append]
          have hlt : (BitVec.extractLsb' 0 12 va).toNat < 2 ^ 12 := (BitVec.extractLsb' 0 12 va).isLt
          rw [← Nat.shiftLeft_add_eq_or_of_lt hlt, Nat.shiftLeft_eq]
          simp [BitVec.extractLsb'_toNat]
        · cases h
      · cases h
  · split at h
    · rename_i hv
      injection h with h1 h2
      subst h1
      exact ⟨hv, rfl⟩
    · cases h

/-! ## One step -/

/-- A next state of a step: an interrupt taken, a failed fetch, or a packet executed. -/
theorem step_cases {s t : State} (h : step s = .next t) :
    (∃ c, s.takenIrq = some c ∧ t = takeInterrupt c s.passBoundary) ∨
    (s.takenIrq = none ∧ ∃ fills, s.passBoundary.translate 0 .fetch s.pc = .pageFault fills ∧
      t = fetchFault .pageFaultFetch (s.passBoundary.fillFetch fills)) ∨
    (s.takenIrq = none ∧ ∃ fills, s.passBoundary.translate 0 .fetch s.pc = .invalidPhysical fills ∧
      t = fetchFault .invalidPhysical (s.passBoundary.fillFetch fills)) ∨
    (s.takenIrq = none ∧ ∃ pa fills slots, s.passBoundary.translate 0 .fetch s.pc = .ok pa fills ∧
      s.passBoundary.packetAt pa = some slots ∧ runPacket slots (s.passBoundary.fillFetch fills) = .next t) := by
  unfold step at h
  split at h
  · rename_i c hc
    injection h with h
    exact .inl ⟨c, hc, h.symm⟩
  · rename_i hc
    unfold fetchAndRun at h
    split at h
    · cases h
    · rename_i fills hf
      injection h with h
      exact .inr (.inl ⟨hc, fills, hf, h.symm⟩)
    · rename_i fills hf
      injection h with h
      exact .inr (.inr (.inl ⟨hc, fills, hf, h.symm⟩))
    · rename_i pa fills hf
      split at h
      · rename_i slots hs
        exact .inr (.inr (.inr ⟨hc, pa, fills, slots, hf, hs, h⟩))
      · cases h

end Sys2Proof.Machine
end

