-- ==== Sys2Proof/Laws/PerInstr.lean ====
section
/-! SUPPORT. Families of statements about every instruction as syntax, one lemma per constructor. -/
namespace Sys2Proof.Laws

/-- The first word an instruction is encoded in carries its PRED field in bits 31:29 (30_encoding.md R111). -/
def EncodedPred.Statement (i : Instr) : Prop := predOf ((encode i).headD 0#32) = i.pred

/-- The same of a family form. -/
theorem encodedPred_of_form (f : Form) : predOf (f.words.headD 0#32) = f.pred := by
  have inv1 : ∀ b : Bool, ((bif b then 1#1 else 0#1) == 1#1) = b := by decide
  rcases f with ⟨o, ⟨r, inv⟩, rd, rs, b | b | b⟩ | ⟨o, ⟨r, inv⟩, rd, b | b | b | b⟩ | ⟨o, ⟨r, inv⟩, pd, rs, b | b | b⟩ |
    ⟨o, ⟨r, inv⟩, rd, rs, off⟩ | ⟨o, ⟨r, inv⟩, rt, rs, off⟩ | ⟨link, ⟨r, inv⟩, t | t⟩ | ⟨c, r, inv⟩ <;>
  (simp (disch := omega) only [Form.words, Op2.words, Op1.words, Target.word, Form.pred, List.headD_cons, predOf,
    Pred.bits, field, extract_append_high, extract_append_low]
   simp only [Nat.reduceAdd, Nat.reduceSub, BitVec.extractLsb'_eq_self, inv1])


theorem EncodedPred.addShort (p : Pred) (rd : Reg) (rs : Reg) (imm : BitVec 10) (rot : BitVec 4) : EncodedPred.Statement (.addShort p rd rs imm rot) :=
  encodedPred_of_form _

theorem EncodedPred.addReg (p : Pred) (rd : Reg) (rs : Reg) (rt : Reg) (ty : ShiftType) (amt : BitVec 5) : EncodedPred.Statement (.addReg p rd rs rt ty amt) :=
  encodedPred_of_form _

theorem EncodedPred.addLong (p : Pred) (rd : Reg) (rs : Reg) (imm : Word) : EncodedPred.Statement (.addLong p rd rs imm) :=
  encodedPred_of_form _

theorem EncodedPred.andShort (p : Pred) (rd : Reg) (rs : Reg) (imm : BitVec 10) (rot : BitVec 4) : EncodedPred.Statement (.andShort p rd rs imm rot) :=
  encodedPred_of_form _

theorem EncodedPred.andReg (p : Pred) (rd : Reg) (rs : Reg) (rt : Reg) (ty : ShiftType) (amt : BitVec 5) : EncodedPred.Statement (.andReg p rd rs rt ty amt) :=
  encodedPred_of_form _

theorem EncodedPred.andLong (p : Pred) (rd : Reg) (rs : Reg) (imm : Word) : EncodedPred.Statement (.andLong p rd rs imm) :=
  encodedPred_of_form _

theorem EncodedPred.norShort (p : Pred) (rd : Reg) (rs : Reg) (imm : BitVec 10) (rot : BitVec 4) : EncodedPred.Statement (.norShort p rd rs imm rot) :=
  encodedPred_of_form _

theorem EncodedPred.norReg (p : Pred) (rd : Reg) (rs : Reg) (rt : Reg) (ty : ShiftType) (amt : BitVec 5) : EncodedPred.Statement (.norReg p rd rs rt ty amt) :=
  encodedPred_of_form _

theorem EncodedPred.norLong (p : Pred) (rd : Reg) (rs : Reg) (imm : Word) : EncodedPred.Statement (.norLong p rd rs imm) :=
  encodedPred_of_form _

theorem EncodedPred.orShort (p : Pred) (rd : Reg) (rs : Reg) (imm : BitVec 10) (rot : BitVec 4) : EncodedPred.Statement (.orShort p rd rs imm rot) :=
  encodedPred_of_form _

theorem EncodedPred.orReg (p : Pred) (rd : Reg) (rs : Reg) (rt : Reg) (ty : ShiftType) (amt : BitVec 5) : EncodedPred.Statement (.orReg p rd rs rt ty amt) :=
  encodedPred_of_form _

theorem EncodedPred.orLong (p : Pred) (rd : Reg) (rs : Reg) (imm : Word) : EncodedPred.Statement (.orLong p rd rs imm) :=
  encodedPred_of_form _

theorem EncodedPred.subShort (p : Pred) (rd : Reg) (rs : Reg) (imm : BitVec 10) (rot : BitVec 4) : EncodedPred.Statement (.subShort p rd rs imm rot) :=
  encodedPred_of_form _

theorem EncodedPred.subReg (p : Pred) (rd : Reg) (rs : Reg) (rt : Reg) (ty : ShiftType) (amt : BitVec 5) : EncodedPred.Statement (.subReg p rd rs rt ty amt) :=
  encodedPred_of_form _

theorem EncodedPred.subLong (p : Pred) (rd : Reg) (rs : Reg) (imm : Word) : EncodedPred.Statement (.subLong p rd rs imm) :=
  encodedPred_of_form _

theorem EncodedPred.rsbShort (p : Pred) (rd : Reg) (rs : Reg) (imm : BitVec 10) (rot : BitVec 4) : EncodedPred.Statement (.rsbShort p rd rs imm rot) :=
  encodedPred_of_form _

theorem EncodedPred.rsbReg (p : Pred) (rd : Reg) (rs : Reg) (rt : Reg) (ty : ShiftType) (amt : BitVec 5) : EncodedPred.Statement (.rsbReg p rd rs rt ty amt) :=
  encodedPred_of_form _

theorem EncodedPred.rsbLong (p : Pred) (rd : Reg) (rs : Reg) (imm : Word) : EncodedPred.Statement (.rsbLong p rd rs imm) :=
  encodedPred_of_form _

theorem EncodedPred.xorShort (p : Pred) (rd : Reg) (rs : Reg) (imm : BitVec 10) (rot : BitVec 4) : EncodedPred.Statement (.xorShort p rd rs imm rot) :=
  encodedPred_of_form _

theorem EncodedPred.xorReg (p : Pred) (rd : Reg) (rs : Reg) (rt : Reg) (ty : ShiftType) (amt : BitVec 5) : EncodedPred.Statement (.xorReg p rd rs rt ty amt) :=
  encodedPred_of_form _

theorem EncodedPred.xorLong (p : Pred) (rd : Reg) (rs : Reg) (imm : Word) : EncodedPred.Statement (.xorLong p rd rs imm) :=
  encodedPred_of_form _

theorem EncodedPred.movShort (p : Pred) (rd : Reg) (imm : BitVec 15) (rot : BitVec 4) : EncodedPred.Statement (.movShort p rd imm rot) :=
  encodedPred_of_form _

theorem EncodedPred.movReg (p : Pred) (rd : Reg) (rt : Reg) (ty : ShiftType) (amt : BitVec 5) : EncodedPred.Statement (.movReg p rd rt ty amt) :=
  encodedPred_of_form _

theorem EncodedPred.movRegsh (p : Pred) (rd : Reg) (rt : Reg) (ty : ShiftType) (rs : Reg) : EncodedPred.Statement (.movRegsh p rd rt ty rs) :=
  encodedPred_of_form _

theorem EncodedPred.movLong (p : Pred) (rd : Reg) (imm : Word) : EncodedPred.Statement (.movLong p rd imm) :=
  encodedPred_of_form _

theorem EncodedPred.mvnShort (p : Pred) (rd : Reg) (imm : BitVec 15) (rot : BitVec 4) : EncodedPred.Statement (.mvnShort p rd imm rot) :=
  encodedPred_of_form _

theorem EncodedPred.mvnReg (p : Pred) (rd : Reg) (rt : Reg) (ty : ShiftType) (amt : BitVec 5) : EncodedPred.Statement (.mvnReg p rd rt ty amt) :=
  encodedPred_of_form _

theorem EncodedPred.mvnRegsh (p : Pred) (rd : Reg) (rt : Reg) (ty : ShiftType) (rs : Reg) : EncodedPred.Statement (.mvnRegsh p rd rt ty rs) :=
  encodedPred_of_form _

theorem EncodedPred.mvnLong (p : Pred) (rd : Reg) (imm : Word) : EncodedPred.Statement (.mvnLong p rd imm) :=
  encodedPred_of_form _

theorem EncodedPred.sxbShort (p : Pred) (rd : Reg) (imm : BitVec 15) (rot : BitVec 4) : EncodedPred.Statement (.sxbShort p rd imm rot) :=
  encodedPred_of_form _

theorem EncodedPred.sxbReg (p : Pred) (rd : Reg) (rt : Reg) (ty : ShiftType) (amt : BitVec 5) : EncodedPred.Statement (.sxbReg p rd rt ty amt) :=
  encodedPred_of_form _

theorem EncodedPred.sxbRegsh (p : Pred) (rd : Reg) (rt : Reg) (ty : ShiftType) (rs : Reg) : EncodedPred.Statement (.sxbRegsh p rd rt ty rs) :=
  encodedPred_of_form _

theorem EncodedPred.sxbLong (p : Pred) (rd : Reg) (imm : Word) : EncodedPred.Statement (.sxbLong p rd imm) :=
  encodedPred_of_form _

theorem EncodedPred.sxhShort (p : Pred) (rd : Reg) (imm : BitVec 15) (rot : BitVec 4) : EncodedPred.Statement (.sxhShort p rd imm rot) :=
  encodedPred_of_form _

theorem EncodedPred.sxhReg (p : Pred) (rd : Reg) (rt : Reg) (ty : ShiftType) (amt : BitVec 5) : EncodedPred.Statement (.sxhReg p rd rt ty amt) :=
  encodedPred_of_form _

theorem EncodedPred.sxhRegsh (p : Pred) (rd : Reg) (rt : Reg) (ty : ShiftType) (rs : Reg) : EncodedPred.Statement (.sxhRegsh p rd rt ty rs) :=
  encodedPred_of_form _

theorem EncodedPred.sxhLong (p : Pred) (rd : Reg) (imm : Word) : EncodedPred.Statement (.sxhLong p rd imm) :=
  encodedPred_of_form _

theorem EncodedPred.cmpltuShort (p : Pred) (pd : PredReg) (rs : Reg) (imm : BitVec 10) (rot : BitVec 4) : EncodedPred.Statement (.cmpltuShort p pd rs imm rot) :=
  encodedPred_of_form _

theorem EncodedPred.cmpltuReg (p : Pred) (pd : PredReg) (rs : Reg) (rt : Reg) (ty : ShiftType) (amt : BitVec 5) : EncodedPred.Statement (.cmpltuReg p pd rs rt ty amt) :=
  encodedPred_of_form _

theorem EncodedPred.cmpltuLong (p : Pred) (pd : PredReg) (rs : Reg) (imm : Word) : EncodedPred.Statement (.cmpltuLong p pd rs imm) :=
  encodedPred_of_form _

theorem EncodedPred.cmpleuShort (p : Pred) (pd : PredReg) (rs : Reg) (imm : BitVec 10) (rot : BitVec 4) : EncodedPred.Statement (.cmpleuShort p pd rs imm rot) :=
  encodedPred_of_form _

theorem EncodedPred.cmpleuReg (p : Pred) (pd : PredReg) (rs : Reg) (rt : Reg) (ty : ShiftType) (amt : BitVec 5) : EncodedPred.Statement (.cmpleuReg p pd rs rt ty amt) :=
  encodedPred_of_form _

theorem EncodedPred.cmpleuLong (p : Pred) (pd : PredReg) (rs : Reg) (imm : Word) : EncodedPred.Statement (.cmpleuLong p pd rs imm) :=
  encodedPred_of_form _

theorem EncodedPred.cmpeqShort (p : Pred) (pd : PredReg) (rs : Reg) (imm : BitVec 10) (rot : BitVec 4) : EncodedPred.Statement (.cmpeqShort p pd rs imm rot) :=
  encodedPred_of_form _

theorem EncodedPred.cmpeqReg (p : Pred) (pd : PredReg) (rs : Reg) (rt : Reg) (ty : ShiftType) (amt : BitVec 5) : EncodedPred.Statement (.cmpeqReg p pd rs rt ty amt) :=
  encodedPred_of_form _

theorem EncodedPred.cmpeqLong (p : Pred) (pd : PredReg) (rs : Reg) (imm : Word) : EncodedPred.Statement (.cmpeqLong p pd rs imm) :=
  encodedPred_of_form _

theorem EncodedPred.cmpltsShort (p : Pred) (pd : PredReg) (rs : Reg) (imm : BitVec 10) (rot : BitVec 4) : EncodedPred.Statement (.cmpltsShort p pd rs imm rot) :=
  encodedPred_of_form _

theorem EncodedPred.cmpltsReg (p : Pred) (pd : PredReg) (rs : Reg) (rt : Reg) (ty : ShiftType) (amt : BitVec 5) : EncodedPred.Statement (.cmpltsReg p pd rs rt ty amt) :=
  encodedPred_of_form _

theorem EncodedPred.cmpltsLong (p : Pred) (pd : PredReg) (rs : Reg) (imm : Word) : EncodedPred.Statement (.cmpltsLong p pd rs imm) :=
  encodedPred_of_form _

theorem EncodedPred.cmplesShort (p : Pred) (pd : PredReg) (rs : Reg) (imm : BitVec 10) (rot : BitVec 4) : EncodedPred.Statement (.cmplesShort p pd rs imm rot) :=
  encodedPred_of_form _

theorem EncodedPred.cmplesReg (p : Pred) (pd : PredReg) (rs : Reg) (rt : Reg) (ty : ShiftType) (amt : BitVec 5) : EncodedPred.Statement (.cmplesReg p pd rs rt ty amt) :=
  encodedPred_of_form _

theorem EncodedPred.cmplesLong (p : Pred) (pd : PredReg) (rs : Reg) (imm : Word) : EncodedPred.Statement (.cmplesLong p pd rs imm) :=
  encodedPred_of_form _

theorem EncodedPred.cmpbsShort (p : Pred) (pd : PredReg) (rs : Reg) (imm : BitVec 10) (rot : BitVec 4) : EncodedPred.Statement (.cmpbsShort p pd rs imm rot) :=
  encodedPred_of_form _

theorem EncodedPred.cmpbsReg (p : Pred) (pd : PredReg) (rs : Reg) (rt : Reg) (ty : ShiftType) (amt : BitVec 5) : EncodedPred.Statement (.cmpbsReg p pd rs rt ty amt) :=
  encodedPred_of_form _

theorem EncodedPred.cmpbsLong (p : Pred) (pd : PredReg) (rs : Reg) (imm : Word) : EncodedPred.Statement (.cmpbsLong p pd rs imm) :=
  encodedPred_of_form _

theorem EncodedPred.cmpbcShort (p : Pred) (pd : PredReg) (rs : Reg) (imm : BitVec 10) (rot : BitVec 4) : EncodedPred.Statement (.cmpbcShort p pd rs imm rot) :=
  encodedPred_of_form _

theorem EncodedPred.cmpbcReg (p : Pred) (pd : PredReg) (rs : Reg) (rt : Reg) (ty : ShiftType) (amt : BitVec 5) : EncodedPred.Statement (.cmpbcReg p pd rs rt ty amt) :=
  encodedPred_of_form _

theorem EncodedPred.cmpbcLong (p : Pred) (pd : PredReg) (rs : Reg) (imm : Word) : EncodedPred.Statement (.cmpbcLong p pd rs imm) :=
  encodedPred_of_form _

theorem EncodedPred.lb (p : Pred) (rd : Reg) (rs : Reg) (off : BitVec 12) : EncodedPred.Statement (.lb p rd rs off) :=
  encodedPred_of_form _

theorem EncodedPred.lh (p : Pred) (rd : Reg) (rs : Reg) (off : BitVec 12) : EncodedPred.Statement (.lh p rd rs off) :=
  encodedPred_of_form _

theorem EncodedPred.lw (p : Pred) (rd : Reg) (rs : Reg) (off : BitVec 12) : EncodedPred.Statement (.lw p rd rs off) :=
  encodedPred_of_form _

theorem EncodedPred.ll (p : Pred) (rd : Reg) (rs : Reg) (off : BitVec 12) : EncodedPred.Statement (.ll p rd rs off) :=
  encodedPred_of_form _

theorem EncodedPred.sb (p : Pred) (rt : Reg) (rs : Reg) (off : BitVec 12) : EncodedPred.Statement (.sb p rt rs off) :=
  encodedPred_of_form _

theorem EncodedPred.sh (p : Pred) (rt : Reg) (rs : Reg) (off : BitVec 12) : EncodedPred.Statement (.sh p rt rs off) :=
  encodedPred_of_form _

theorem EncodedPred.sw (p : Pred) (rt : Reg) (rs : Reg) (off : BitVec 12) : EncodedPred.Statement (.sw p rt rs off) :=
  encodedPred_of_form _

theorem EncodedPred.sc (p : Pred) (rt : Reg) (rs : Reg) (off : BitVec 12) : EncodedPred.Statement (.sc p rt rs off) :=
  encodedPred_of_form _

theorem EncodedPred.bImm (p : Pred) (off : BitVec 25) : EncodedPred.Statement (.bImm p off) :=
  encodedPred_of_form _

theorem EncodedPred.bReg (p : Pred) (rs : Reg) (off : BitVec 20) : EncodedPred.Statement (.bReg p rs off) :=
  encodedPred_of_form _

theorem EncodedPred.blImm (p : Pred) (off : BitVec 25) : EncodedPred.Statement (.blImm p off) :=
  encodedPred_of_form _

theorem EncodedPred.blReg (p : Pred) (rs : Reg) (off : BitVec 20) : EncodedPred.Statement (.blReg p rs off) :=
  encodedPred_of_form _

theorem EncodedPred.brk (p : Pred) : EncodedPred.Statement (.brk p) :=
  encodedPred_of_form _

theorem EncodedPred.syscall (p : Pred) : EncodedPred.Statement (.syscall p) :=
  encodedPred_of_form _

theorem EncodedPred.fence (p : Pred) : EncodedPred.Statement (.fence p) :=
  encodedPred_of_form _

theorem EncodedPred.eret (p : Pred) : EncodedPred.Statement (.eret p) :=
  encodedPred_of_form _

theorem EncodedPred.flush (p : Pred) (ty : FlushType) (rs : Reg) : EncodedPred.Statement (.flush p ty rs) :=
  encodedPred_of_form _

theorem EncodedPred.mfc (p : Pred) (rd : Reg) (n : CopNum) : EncodedPred.Statement (.mfc p rd n) :=
  encodedPred_of_form _

theorem EncodedPred.mtc (p : Pred) (n : CopNum) (rs : Reg) : EncodedPred.Statement (.mtc p n rs) :=
  encodedPred_of_form _

theorem EncodedPred.mfhi (p : Pred) (rd : Reg) : EncodedPred.Statement (.mfhi p rd) :=
  encodedPred_of_form _

theorem EncodedPred.mthi (p : Pred) (rs : Reg) : EncodedPred.Statement (.mthi p rs) :=
  encodedPred_of_form _

theorem EncodedPred.mult (p : Pred) (rd : Reg) (rs : Reg) (rt : Reg) : EncodedPred.Statement (.mult p rd rs rt) :=
  encodedPred_of_form _

theorem EncodedPred.mults (p : Pred) (rd : Reg) (rs : Reg) (rt : Reg) : EncodedPred.Statement (.mults p rd rs rt) :=
  encodedPred_of_form _

theorem EncodedPred.div (p : Pred) (rd : Reg) (rs : Reg) (rt : Reg) : EncodedPred.Statement (.div p rd rs rt) :=
  encodedPred_of_form _

end Sys2Proof.Laws
end

