-- ==== Sys2Proof/Tests/Slice0.lean ====
section
/-! SUPPORT. Tests: well-formedness refuses, words written in spec/ decode, one-step examples of spec/ (each test names its
rule), and for each statement with hypotheses a state that meets them. -/
namespace Sys2Proof.Tests
open Sys2Proof Sys2Proof.Machine

set_option maxRecDepth 8000

/-! ## Helpers -/

/-- The reset state with R1 and R2. -/
def with12 (a b : Word) : State := (State.reset.setReg 1 a).setReg 2 b

/-- The reset state with memory 0x1000 to 0x1003 = 78 56 34 F2 (43_load_store.md R241), R2 and R3. -/
def withMem (r2 r3 : Word) : State :=
  { (State.reset.setReg 2 r2).setReg 3 r3 with mem := [(0x1000, 0x78#8), (0x1001, 0x56#8), (0x1002, 0x34#8), (0x1003, 0xF2#8)] }

/-- Always. -/
def al : Pred := ⟨3, false⟩

/-- Never. -/
def nv : Pred := ⟨3, true⟩

def next (o : Host.Outcome State Fault Refusal) : State :=
  match o with
  | .next t => t
  | .fault _ => State.reset
  | .refused _ => State.reset

/-! ## Well-formedness refuses ill-formed terms -/

theorem test_wf_refuses_mfc_unassigned : (Instr.mfc al 1 10).wellFormed = false := by decide
theorem test_wf_refuses_mtc_unassigned : (Instr.mtc al 20 1).wellFormed = false := by decide
theorem test_wf_accepts_mtc_sp3 : (Instr.mtc al 19 1).wellFormed = true := by decide
theorem test_wf_packet_refuses_three_slots : packetWellFormed [some (.fence al), none, none] = false := by decide
theorem test_wf_packet_refuses_control_in_slot_one :
    packetWellFormed [some (.movShort al 1 0 0), some (.fence al), some (.movShort al 2 0 0), some (.movShort al 3 0 0)] = false := by
  decide
theorem test_wf_packet_refuses_load_in_slot_two :
    packetWellFormed [some (.movShort al 1 0 0), some (.movShort al 2 0 0), some (.lw al 3 0 0), some (.movShort al 4 0 0)] = false := by
  decide
theorem test_wf_packet_refuses_long_in_slot_three :
    packetWellFormed [some (.movShort al 1 0 0), some (.movShort al 2 0 0), some (.movShort al 3 0 0), some (.movLong al 4 0)] = false := by
  decide
theorem test_wf_packet_refuses_instruction_after_long :
    packetWellFormed [some (.movLong al 1 0), some (.movShort al 2 0 0), some (.movShort al 3 0 0), some (.movShort al 4 0 0)] = false := by
  decide
theorem test_wf_packet_refuses_common_destination :
    packetWellFormed [some (.movShort al 1 0 0), some (.movShort nv 1 0 0), some (.movShort al 3 0 0), some (.movShort al 4 0 0)] = false := by
  decide
theorem test_wf_packet_accepts_long :
    packetWellFormed [some (.movLong al 1 0), none, some (.movShort al 2 0 0), some (.cmpeqShort al 3 0 0 0)] = true := by
  decide

/-! ## Words of spec/ decode to what they stand for -/

/-! One word for every row of the opcode table but MFHI and MTHI: the row's fixed bits, PRED 011, Rd 21, Rs 10, Rt 19, Pd 2
and the other fields as written (30_encoding.md R113 to R138). -/

theorem test_row_alu_2_op_short_1 :
    decodeWord 0x680E42AA 0 = .ok (.addShort ⟨1, true⟩ 21 10 0b1000000011 9) ∧
    decodeWord 0x680E46AA 0 = .ok (.andShort ⟨1, true⟩ 21 10 0b1000000011 9) ∧
    decodeWord 0x680E4AAA 0 = .ok (.norShort ⟨1, true⟩ 21 10 0b1000000011 9) ∧
    decodeWord 0x680E4EAA 0 = .ok (.orShort ⟨1, true⟩ 21 10 0b1000000011 9) ∧
    decodeWord 0x680E52AA 0 = .ok (.subShort ⟨1, true⟩ 21 10 0b1000000011 9) ∧
    decodeWord 0x680E56AA 0 = .ok (.rsbShort ⟨1, true⟩ 21 10 0b1000000011 9) := by decide
theorem test_row_alu_2_op_short_2 :
    decodeWord 0x680E5AAA 0 = .ok (.xorShort ⟨1, true⟩ 21 10 0b1000000011 9) := by decide
theorem test_row_alu_register_1 :
    decodeWord 0x772CC2AA 0 = .ok (.addReg ⟨1, true⟩ 21 10 19 .lsr 25) ∧
    decodeWord 0x7724C6AA 0 = .ok (.andReg ⟨1, true⟩ 21 10 19 .lsl 25) ∧
    decodeWord 0x773CCAAA 0 = .ok (.norReg ⟨1, true⟩ 21 10 19 .ror 25) ∧
    decodeWord 0x7734CEAA 0 = .ok (.orReg ⟨1, true⟩ 21 10 19 .asr 25) ∧
    decodeWord 0x772CD2AA 0 = .ok (.subReg ⟨1, true⟩ 21 10 19 .lsr 25) ∧
    decodeWord 0x7724D6AA 0 = .ok (.rsbReg ⟨1, true⟩ 21 10 19 .lsl 25) := by decide
theorem test_row_alu_register_2 :
    decodeWord 0x773CDAAA 0 = .ok (.xorReg ⟨1, true⟩ 21 10 19 .ror 25) ∧
    decodeWord 0x7734E2A0 0 = .ok (.movReg ⟨1, true⟩ 21 19 .asr 25) ∧
    decodeWord 0x7734E6A0 0 = .ok (.mvnReg ⟨1, true⟩ 21 19 .asr 25) ∧
    decodeWord 0x7734EAA0 0 = .ok (.sxbReg ⟨1, true⟩ 21 19 .asr 25) ∧
    decodeWord 0x7734EEA0 0 = .ok (.sxhReg ⟨1, true⟩ 21 19 .asr 25) := by decide
theorem test_row_alu_long_1 :
    decodeWord 0x700002AA 0x89ABCDEF = .ok (.addLong ⟨1, true⟩ 21 10 0x89ABCDEF) ∧
    decodeWord 0x700006AA 0x89ABCDEF = .ok (.andLong ⟨1, true⟩ 21 10 0x89ABCDEF) ∧
    decodeWord 0x70000AAA 0x89ABCDEF = .ok (.norLong ⟨1, true⟩ 21 10 0x89ABCDEF) ∧
    decodeWord 0x70000EAA 0x89ABCDEF = .ok (.orLong ⟨1, true⟩ 21 10 0x89ABCDEF) ∧
    decodeWord 0x700012AA 0x89ABCDEF = .ok (.subLong ⟨1, true⟩ 21 10 0x89ABCDEF) ∧
    decodeWord 0x700016AA 0x89ABCDEF = .ok (.rsbLong ⟨1, true⟩ 21 10 0x89ABCDEF) := by decide
theorem test_row_alu_long_2 :
    decodeWord 0x70001AAA 0x89ABCDEF = .ok (.xorLong ⟨1, true⟩ 21 10 0x89ABCDEF) ∧
    decodeWord 0x700022A0 0x89ABCDEF = .ok (.movLong ⟨1, true⟩ 21 0x89ABCDEF) ∧
    decodeWord 0x700026A0 0x89ABCDEF = .ok (.mvnLong ⟨1, true⟩ 21 0x89ABCDEF) ∧
    decodeWord 0x70002AA0 0x89ABCDEF = .ok (.sxbLong ⟨1, true⟩ 21 0x89ABCDEF) ∧
    decodeWord 0x70002EA0 0x89ABCDEF = .ok (.sxhLong ⟨1, true⟩ 21 0x89ABCDEF) := by decide
theorem test_row_alu_1_op_short :
    decodeWord 0x680E62B2 0 = .ok (.movShort ⟨1, true⟩ 21 0b100101000000011 9) ∧
    decodeWord 0x680E66B2 0 = .ok (.mvnShort ⟨1, true⟩ 21 0b100101000000011 9) ∧
    decodeWord 0x680E6AB2 0 = .ok (.sxbShort ⟨1, true⟩ 21 0b100101000000011 9) ∧
    decodeWord 0x680E6EB2 0 = .ok (.sxhShort ⟨1, true⟩ 21 0b100101000000011 9) := by decide
theorem test_row_alu_1_op_regsh :
    decodeWord 0x703CE2AA 0 = .ok (.movRegsh ⟨1, true⟩ 21 19 .ror 10) ∧
    decodeWord 0x703CE6AA 0 = .ok (.mvnRegsh ⟨1, true⟩ 21 19 .ror 10) ∧
    decodeWord 0x703CEAAA 0 = .ok (.sxbRegsh ⟨1, true⟩ 21 19 .ror 10) ∧
    decodeWord 0x703CEEAA 0 = .ok (.sxhRegsh ⟨1, true⟩ 21 19 .ror 10) := by decide
theorem test_row_compare_short_1 :
    decodeWord 0x680E5C4A 0 = .ok (.cmpltuShort ⟨1, true⟩ 2 10 0b1000000011 9) ∧
    decodeWord 0x680E5CCA 0 = .ok (.cmpleuShort ⟨1, true⟩ 2 10 0b1000000011 9) ∧
    decodeWord 0x680E5D4A 0 = .ok (.cmpeqShort ⟨1, true⟩ 2 10 0b1000000011 9) ∧
    decodeWord 0x680E5E4A 0 = .ok (.cmpltsShort ⟨1, true⟩ 2 10 0b1000000011 9) ∧
    decodeWord 0x680E5ECA 0 = .ok (.cmplesShort ⟨1, true⟩ 2 10 0b1000000011 9) ∧
    decodeWord 0x680E5F4A 0 = .ok (.cmpbsShort ⟨1, true⟩ 2 10 0b1000000011 9) := by decide
theorem test_row_compare_short_2 :
    decodeWord 0x680E5FCA 0 = .ok (.cmpbcShort ⟨1, true⟩ 2 10 0b1000000011 9) := by decide
theorem test_row_compare_register_1 :
    decodeWord 0x7734DC4A 0 = .ok (.cmpltuReg ⟨1, true⟩ 2 10 19 .asr 25) ∧
    decodeWord 0x772CDCCA 0 = .ok (.cmpleuReg ⟨1, true⟩ 2 10 19 .lsr 25) ∧
    decodeWord 0x7724DD4A 0 = .ok (.cmpeqReg ⟨1, true⟩ 2 10 19 .lsl 25) ∧
    decodeWord 0x773CDE4A 0 = .ok (.cmpltsReg ⟨1, true⟩ 2 10 19 .ror 25) ∧
    decodeWord 0x7734DECA 0 = .ok (.cmplesReg ⟨1, true⟩ 2 10 19 .asr 25) ∧
    decodeWord 0x772CDF4A 0 = .ok (.cmpbsReg ⟨1, true⟩ 2 10 19 .lsr 25) := by decide
theorem test_row_compare_register_2 :
    decodeWord 0x7724DFCA 0 = .ok (.cmpbcReg ⟨1, true⟩ 2 10 19 .lsl 25) := by decide
theorem test_row_compare_long_1 :
    decodeWord 0x70001C4A 0x89ABCDEF = .ok (.cmpltuLong ⟨1, true⟩ 2 10 0x89ABCDEF) ∧
    decodeWord 0x70001CCA 0x89ABCDEF = .ok (.cmpleuLong ⟨1, true⟩ 2 10 0x89ABCDEF) ∧
    decodeWord 0x70001D4A 0x89ABCDEF = .ok (.cmpeqLong ⟨1, true⟩ 2 10 0x89ABCDEF) ∧
    decodeWord 0x70001E4A 0x89ABCDEF = .ok (.cmpltsLong ⟨1, true⟩ 2 10 0x89ABCDEF) ∧
    decodeWord 0x70001ECA 0x89ABCDEF = .ok (.cmplesLong ⟨1, true⟩ 2 10 0x89ABCDEF) ∧
    decodeWord 0x70001F4A 0x89ABCDEF = .ok (.cmpbsLong ⟨1, true⟩ 2 10 0x89ABCDEF) := by decide
theorem test_row_compare_long_2 :
    decodeWord 0x70001FCA 0x89ABCDEF = .ok (.cmpbcLong ⟨1, true⟩ 2 10 0x89ABCDEF) := by decide
theorem test_row_load :
    decodeWord 0x7300E2AA 0 = .ok (.lb ⟨1, true⟩ 21 10 0b100000000111) ∧
    decodeWord 0x7300E6AA 0 = .ok (.lh ⟨1, true⟩ 21 10 0b100000000111) ∧
    decodeWord 0x7300EAAA 0 = .ok (.lw ⟨1, true⟩ 21 10 0b100000000111) ∧
    decodeWord 0x7300EEAA 0 = .ok (.ll ⟨1, true⟩ 21 10 0b100000000111) := by decide
theorem test_row_store :
    decodeWord 0x7314F22A 0 = .ok (.sb ⟨1, true⟩ 19 10 0b100010110001) ∧
    decodeWord 0x7314F62A 0 = .ok (.sh ⟨1, true⟩ 19 10 0b100010110001) ∧
    decodeWord 0x7314FA2A 0 = .ok (.sw ⟨1, true⟩ 19 10 0b100010110001) ∧
    decodeWord 0x7314FE2A 0 = .ok (.sc ⟨1, true⟩ 19 10 0b100010110001) := by decide
theorem test_row_branch_immediate :
    decodeWord 0x79000005 0 = .ok (.bImm ⟨1, true⟩ 0x1000005) ∧
    decodeWord 0x7B000005 0 = .ok (.blImm ⟨1, true⟩ 0x1000005) := by decide
theorem test_row_branch_register :
    decodeWord 0x7D0000AA 0 = .ok (.bReg ⟨1, true⟩ 10 0x80005) ∧
    decodeWord 0x7F0000AA 0 = .ok (.blReg ⟨1, true⟩ 10 0x80005) := by decide
theorem test_row_control_1 :
    decodeWord 0x71100000 0 = .ok (.brk ⟨1, true⟩) ∧
    decodeWord 0x71200000 0 = .ok (.syscall ⟨1, true⟩) ∧
    decodeWord 0x71300000 0 = .ok (.fence ⟨1, true⟩) ∧
    decodeWord 0x71400000 0 = .ok (.eret ⟨1, true⟩) ∧
    decodeWord 0x71500C0A 0 = .ok (.flush ⟨1, true⟩ .itlb 10) ∧
    decodeWord 0x716002B1 0 = .ok (.mfc ⟨1, true⟩ 21 17) := by decide
theorem test_row_control_2 :
    decodeWord 0x7170022A 0 = .ok (.mtc ⟨1, true⟩ 17 10) ∧
    decodeWord 0x7184C2AA 0 = .ok (.mult ⟨1, true⟩ 21 10 19) ∧
    decodeWord 0x718CC2AA 0 = .ok (.mults ⟨1, true⟩ 21 10 19) ∧
    decodeWord 0x7194C2AA 0 = .ok (.div ⟨1, true⟩ 21 10 19) := by decide

/-- MFHI R4 and MTHI R5 by whatever admissible codes they have, bits 23:20 being the code (45_control.md R285, R286; log 9). -/
theorem test_decode_mfhi_mthi :
    decodeWord (0xD1000080#32 ||| (encMfhi.setWidth 32 <<< 20)) 0 = .ok (.mfhi al 4) ∧
    decodeWord (0xD1000005#32 ||| (encMthi.setWidth 32 <<< 20)) 0 = .ok (.mthi al 5) := by
  have codes : ∀ (m : Fin 7) (n : Fin 6), encMfhi = openControlCode m.val →
      encMthi = openControlCode (if n.val < m.val then n.val else n.val + 1) →
      decodeWord (0xD1000080#32 ||| (encMfhi.setWidth 32 <<< 20)) 0 = .ok (.mfhi al 4) ∧
      decodeWord (0xD1000005#32 ||| (encMthi.setWidth 32 <<< 20)) 0 = .ok (.mthi al 5) := by
    intro m n h1 h2
    simp only [decodeWord, decodeForm, decodeControl]
    rw [h1, h2]
    clear h1 h2
    revert m n
    decide
  exact codes Config.mfhiSelect Config.mthiSelect rfl rfl
theorem test_mfhi_mthi_codes_differ : encMfhi ≠ 0b0111#4 ∧ encMthi ≠ 0b0111#4 ∧ encMfhi ≠ encMthi := by
  unfold encMthi encMfhi openControlCode
  generalize Config.mfhiSelect = m
  generalize Config.mthiSelect = n
  revert m n
  decide
theorem test_decode_rejects :
    decodeWord 0xC0003000 0 = .error .reservedAluOpcode ∧ decodeWord 0xC0001D80 0 = .error .unassignedCompareType ∧
    decodeWord 0xD0200000 0 = .error .regshOpcode ∧ decodeWord 0xD0400000 0 = .error .noFormat := by
  decide
theorem test_decode_bytes_little_endian :
    decodeBytes [0x61, 0x00, 0x14, 0xC0, 0xAA] = .ok (.addShort al 3 1 5 0, [0xAA]) := by decide
theorem test_decode_bytes_long :
    decodeBytes [0x20, 0x20, 0x00, 0xD0, 0xEF, 0xBE, 0xAD, 0xDE] = .ok (.movLong al 1 0xDEADBEEF, []) := by decide
theorem test_encode_store : encode (.sw al 3 2 0xFFC) = [0xD3F8FB82] := by decide
theorem test_encode_mov_short : encode (.movShort al 1 0x1234 0) = [0xC8D02024] := by decide
theorem test_encode_mov_long : encode (.movLong al 1 0xDEADBEEF) = [0xD0002020, 0xDEADBEEF] := by decide

/-! ## The second operand (40_packet_and_operands.md R178) -/

theorem test_op2_short : shortImm10 0x0FF 4 = 0xFF000000 ∧ shortImm10 0x3FF 15 = 0x00000FFC ∧ shortImm15 0x4001 1 = 0x40001000 := by
  decide
theorem test_op2_shift :
    shift 0x80000001 .asr 1 = 0xC0000000 ∧ shift 0x80000001 .ror 1 = 0xC0000000 ∧ shift 0x80000001 .lsl 32 = 0 ∧
    shift 0x80000001 .asr 32 = 0xFFFFFFFF ∧ shift 0x80000001 .ror 33 = 0xC0000000 ∧ shift 0x80000001 .ror 32 = 0x80000001 ∧
    shift 0x12345678 .lsr 0xFFFFFFFF = 0 := by
  decide

/-! ## One step on small states: the examples of spec/ -/

theorem test_add_wraps : (next (exec (.addShort al 3 1 5 0) (with12 0xFFFFFFFE 0))).reg 3 = 3 := by decide
theorem test_add_reg : (next (exec (.addReg al 3 1 2 .lsl 2) (with12 0x1000 3))).reg 3 = 0x100C := by decide
theorem test_and : (next (exec (.andShort al 4 1 0xFF 0) (with12 0x12345678 0))).reg 4 = 0x78 := by decide
theorem test_nor : (next (exec (.norShort al 6 1 0 0) (with12 0x0000FFFF 0))).reg 6 = 0xFFFF0000 := by decide
theorem test_or : (next (exec (.orShort al 8 1 1 1) (with12 1 0))).reg 8 = 0x40000001 := by decide
theorem test_sub : (next (exec (.subShort al 10 1 1 0) (with12 0 0))).reg 10 = 0xFFFFFFFF := by decide
theorem test_rsb : (next (exec (.rsbShort al 12 1 0 0) (with12 5 0))).reg 12 = 0xFFFFFFFB := by decide
theorem test_xor_self : (next (exec (.xorReg al 1 1 1 .lsl 0) (with12 77 0))).reg 1 = 0 := by decide
theorem test_mov_regsh : (next (exec (.movRegsh al 3 1 .lsl 2) (with12 1 32))).reg 3 = 0 := by decide
theorem test_mvn_ror : (next (exec (.mvnReg al 3 1 .ror 8) (with12 0xFF 0))).reg 3 = 0x00FFFFFF := by decide
theorem test_sxb : (next (exec (.sxbReg al 4 1 .lsr 8) (with12 0xF012 0))).reg 4 = 0xFFFFFFF0 := by decide
theorem test_sxh : (next (exec (.sxhRegsh al 6 1 .asr 2) (with12 0x80000000 16))).reg 6 = 0xFFFF8000 := by decide
theorem test_false_predicate : (next (exec (.movShort nv 1 9 0) (with12 7 0))).reg 1 = 7 := by decide
theorem test_cmpltu : (next (exec (.cmpltuShort al 0 1 5 0) (with12 4 0))).p0 = true := by decide
theorem test_cmplts_minus_one : (next (exec (.cmpltsShort al 0 1 5 0) (with12 0xFFFFFFFF 0))).p0 = true := by decide
theorem test_cmpltu_minus_one : (next (exec (.cmpltuShort al 0 1 5 0) (with12 0xFFFFFFFF 0))).p0 = false := by decide
theorem test_cmpeq : (next (exec (.cmpeqShort al 1 1 5 0) (with12 0x105 0))).p1 = false := by decide
theorem test_cmpbs : (next (exec (.cmpbsShort al 1 2 1 1) (with12 0 0x40000000))).p1 = true := by decide
/-- Both readings agree on a mask of one bit (42_compare.md R228). -/
theorem test_cmpbc_one_bit : (next (exec (.cmpbcShort al 2 1 1 0) (with12 0 0))).p2 = true := by decide
theorem test_lb : (next (exec (.lb al 1 2 3) (withMem 0x1000 0))).reg 1 = 0xF2 := by decide
theorem test_lh_odd : (next (exec (.lh al 1 2 3) (withMem 0x1000 0))).reg 1 = 0xF234 := by decide
theorem test_lw_negative_offset : (next (exec (.lw al 1 2 0xFFC) (withMem 0x1004 0))).reg 1 = 0xF2345678 := by decide
theorem test_ll_sets_link : (next (exec (.ll al 1 2 0) (withMem 0x1000 0))).link = true := by decide
theorem test_sb : (next (exec (.sb al 3 2 1) (withMem 0x1000 0xAABBCCDD))).mem =
    [(0x1000, 0x78#8), (0x1001, 0xDD#8), (0x1002, 0x34#8), (0x1003, 0xF2#8)] := by decide
theorem test_sh : (next (exec (.sh al 3 2 0x7FF) (withMem 0x1000 0xAABBCCDD))).mem.drop 4 = [(0x17FE, 0xDD#8), (0x17FF, 0xCC#8)] := by
  decide
theorem test_sw : (next (exec (.sw al 3 2 0xFFC) (withMem 0x1004 0xAABBCCDD))).mem =
    [(0x1000, 0xDD#8), (0x1001, 0xCC#8), (0x1002, 0xBB#8), (0x1003, 0xAA#8)] := by decide
theorem test_sc_without_link : (next (exec (.sc al 3 2 0) (withMem 0x1000 7))).mem = (withMem 0x1000 7).mem := by decide
theorem test_sc_with_link :
    (next (exec (.sc al 3 2 0) { withMem 0x1000 7 with link := true })).p0 = true := by decide
theorem test_load_unwritten_faults :
    (match exec (.lw al 1 2 4) (withMem 0x1000 0) with
      | .fault (.unwrittenMemory a) => some a
      | _ => none) = some 0x1004 := by decide
theorem test_load_invalid_physical : (next (exec (.lw al 1 2 3) (withMem 0x20000000 0))).ea0 = 0x20000003 := by decide
theorem test_b_back : (next (exec (.bImm ⟨0, true⟩ 0x1FFFFFD) { State.reset with pc := 0x1000 })).pc = 0xFD0 := by decide
theorem test_b_reg_rounds : (next (exec (.bReg al 1 0) (with12 0x2008 0))).pc = 0x2000 := by decide
theorem test_bl : (next (exec (.blImm al 0x10) { State.reset with pc := 0x1000 })).reg 31 = 0x1000 := by decide
theorem test_bl_reg : (next (exec (.blReg al 1 0xFFFFF) (with12 0x3000 0))).pc = 0x2FF0 := by decide
theorem test_mult_low : (next (exec (.mult al 3 1 2) (with12 0x12345678 0x9ABCDEF0))).reg 3 = 0x242D2080 := by decide
theorem test_mult_high : (next (exec (.mult al 3 1 2) (with12 0x12345678 0x9ABCDEF0))).ovf = 0x0B00EA4E := by decide
theorem test_mults_high : (next (exec (.mults al 3 1 2) (with12 0x12345678 0x9ABCDEF0))).ovf = 0xF8CC93D6 := by decide
theorem test_div_quotient : (next (exec (.div al 3 1 2) (with12 100 7))).reg 3 = 14 := by decide
theorem test_div_remainder : (next (exec (.div al 3 1 2) (with12 100 7))).ovf = 2 := by decide
theorem test_mfhi : (next (exec (.mfhi al 4) { State.reset with ovf := 2 })).reg 4 = 2 := by decide
theorem test_mthi : (next (exec (.mthi al 1) (with12 0xCAFE0000 0))).ovf = 0xCAFE0000 := by decide
theorem test_mtc_pflags : (next (exec (.mtc al 0 1) (with12 0xFFFFFFFF 0))).pflags = 3 := by decide
theorem test_mtc_ptb_keeps_global : (next (exec (.mtc al 1 1) { with12 0x5000 0 with
    itlb := [⟨1, 2, true, false, false⟩, ⟨3, 4, false, false, false⟩] })).itlb = [⟨1, 2, true, false, false⟩] := by decide
theorem test_mfc_user_traps : (next (exec (.mfc al 1 16) { State.reset with mode := .user, eha := 0x8F })).pc = 0x80 := by decide
theorem test_syscall_pc : (next (exec (.syscall al) { State.reset with pc := 0x4000, eha := 0x100 })).pc = 0x100 := by decide
theorem test_brk_pc : (next (exec (.brk al) { State.reset with eha := 0x200, ie := true })).ie = false := by decide
theorem test_eret_pc : (next (exec (.eret al) { State.reset with epc := 0x4013 })).pc = 0x4010 := by decide
theorem test_flush_dtlb : (next (exec (.flush al .dtlb 1) { with12 0x3FFF 0 with
    dtlb := [⟨3, 4, true, false, false⟩, ⟨5, 4, false, false, false⟩] })).dtlb = [⟨5, 4, false, false, false⟩] := by decide
theorem test_fence_pc : (next (exec (.fence al) State.reset)).pc = 16 := by decide

/-! ## Packets -/

/-- A packet swaps two registers (40_packet_and_operands.md R163). -/
theorem test_packet_swaps : (next (runPacket [.instr (.movReg al 1 2 .lsl 0), .instr (.movReg al 2 1 .lsl 0),
    .instr (.movShort nv 3 0 0), .instr (.movShort nv 4 0 0)] (with12 11 22))).reg 1 = 22 := by decide
theorem test_step_fetches : (next (step (State.reset.withFetchWord 32 0xC0140061))).reg 3 = 5 := by decide
theorem test_step_fetches_long : (next (step (State.reset.withFetchWord 64 0xDEADBEEFD0002020))).reg 1 = 0xDEADBEEF := by decide

/-! ## Witnesses: for each statement with hypotheses, a state and operands that meet them -/

/-- TableRowsDecodeByMaskAndMatch: for every opcode of every format the row's match itself meets its mask, a MULTS and
whatever codes MFHI and MTHI have among them. -/
theorem witness_table_rows : (∀ c : Fin 16, let op : Word := BitVec.ofNat 32 (c.val * 0x400)
      (0x00000000 + op) &&& 0x10003C00 = 0x00000000 + op ∧ (0x14000000 + op) &&& 0x1C003C00 = 0x14000000 + op ∧
      (0x10200000 + op) &&& 0x1FE03C00 = 0x10200000 + op ∧ (0x10000000 + op) &&& 0x1FFFFC00 = 0x10000000 + op) ∧
    (∀ c : Fin 8, let op : Word := BitVec.ofNat 32 (c.val * 0x80)
      (0x00001C00 + op) &&& 0x10003F80 = 0x00001C00 + op ∧ (0x14001C00 + op) &&& 0x1C003F80 = 0x14001C00 + op ∧
      (0x10001C00 + op) &&& 0x1FFFFF80 = 0x10001C00 + op) ∧
    (∀ c : Fin 8, let op : Word := 0x12000000 + BitVec.ofNat 32 (c.val * 0x400); op &&& 0x1E001C00 = op) ∧
    (∀ c : Fin 4, let op : Word := 0x18000000 + BitVec.ofNat 32 (c.val * 0x2000000); op &&& 0x1E000000 = op) ∧
    (∀ c : BitVec 4, let op : Word := 0x11000000 + (c.setWidth 32 <<< 20); op &&& 0x1FF00000 = op) ∧
    0x11800000#32 &&& 0x1FF80000 = 0x11800000#32 ∧ 0x11880000#32 &&& 0x1FF80000 = 0x11880000#32 := by decide
/-- UndefinedEncodingsAreRejected, but for its fourth clause: a word of each format it names. -/
theorem witness_undefined_encodings :
    ((0xC0003000#32).extractLsb' 28 1 = 0#1 ∧ 12 ≤ ((0xC0003000#32).extractLsb' 10 4).toNat) ∧
    ((0xD4003000#32).extractLsb' 26 3 = 0b101#3 ∧ 12 ≤ ((0xD4003000#32).extractLsb' 10 4).toNat) ∧
    ((0xD0203C00#32).extractLsb' 21 8 = 0b10000001#8 ∧ 12 ≤ ((0xD0203C00#32).extractLsb' 10 4).toNat) ∧
    ((0xD0003C00#32).extractLsb' 14 15 = 0b100000000000000#15 ∧ 12 ≤ ((0xD0003C00#32).extractLsb' 10 4).toNat) ∧
    ((0xC0001D80#32).extractLsb' 28 1 = 0#1 ∧ (0xC0001D80#32).extractLsb' 10 4 = 7#4 ∧ (0xC0001D80#32).extractLsb' 7 3 = 3#3) ∧
    ((0xD4001D80#32).extractLsb' 26 3 = 0b101#3 ∧ (0xD4001D80#32).extractLsb' 10 4 = 7#4 ∧ (0xD4001D80#32).extractLsb' 7 3 = 3#3) ∧
    ((0xD0001D80#32).extractLsb' 14 15 = 0b100000000000000#15 ∧ (0xD0001D80#32).extractLsb' 10 4 = 7#4 ∧
      (0xD0001D80#32).extractLsb' 7 3 = 3#3) ∧
    ((0xD0201C00#32).extractLsb' 21 8 = 0b10000001#8 ∧ ((0xD0201C00#32).extractLsb' 10 4).toNat < 8) ∧
    ((0xD0400000#32).extractLsb' 24 5 = 0b10000#5 ∧ (0xD0400000#32).extractLsb' 21 8 ≠ 0b10000001#8 ∧
      (0xD0400000#32).extractLsb' 14 15 ≠ 0b100000000000000#15) := by decide
/-- UndefinedEncodingsAreRejected, its fourth clause: whatever codes MFHI and MTHI have, some code is neither. -/
theorem witness_unassigned_control : ∃ c : Fin 16, let w : Word := 0xD1000000#32 + BitVec.ofNat 32 (c.val * 0x100000)
    w.extractLsb' 24 5 = 0b10001#5 ∧ ((w.extractLsb' 20 4).toNat = 0 ∨ 9 < (w.extractLsb' 20 4).toNat) ∧
      w.extractLsb' 20 4 ≠ encMfhi ∧ w.extractLsb' 20 4 ≠ encMthi := by
  unfold encMthi encMfhi openControlCode
  generalize Config.mfhiSelect = m
  generalize Config.mthiSelect = n
  revert m n
  decide
/-- SlotAfterLongFormIsOperand: a long form of a defined opcode and one of an undefined compare type. -/
theorem witness_long_slot : (0xD0002020#32).extractLsb' 14 15 = 0b100000000000000#15 ∧
    (0xD0001D81#32).extractLsb' 14 15 = 0b100000000000000#15 := by decide

/-- The reset state with the packet ADD R3, R1, #5 and three MOVs that never execute where it fetches. -/
def placed : State := State.reset.withFetchWord 32 0xC0140061

/-- StepRunsTheDecodedInstruction; a word of an undefined encoding for its last clause. -/
theorem witness_step_runs :
    placed.takenIrq = none ∧ placed.passBoundary.translate 0 .fetch placed.pc = .ok 0 [] ∧
    placed.passBoundary.fetchWord 0 = some 0xC0140061#32 ∧ placed.passBoundary.fetchWord 4 = some 0xE0002020#32 ∧
    placed.passBoundary.fetchWord 8 = some 0xE0002040#32 ∧ placed.passBoundary.fetchWord 12 = some 0xE00020C0#32 ∧
    decodeWord 0xC0140061 0xE0002020 = .ok (.addShort al 3 1 5 0) ∧
    classify 0xC0140061 0xE0002020 0xE0002040 0xE00020C0 = [.instr (.addShort al 3 1 5 0), .instr (.movShort nv 1 0 0),
      .instr (.movShort nv 2 0 0), .instr (.movShort nv 6 0 0)] ∧
    packetWellFormed [some (.addShort al 3 1 5 0), some (.movShort nv 1 0 0), some (.movShort nv 2 0 0),
      some (.movShort nv 6 0 0)] = true ∧ placed.holds nv = false ∧ slotOf 0xC0003000 0 = .undefined := by decide

/-- LanesReadTheOldStateAndCommitTogether, its example: P3 holds, its inversion never. -/
theorem witness_always_never : State.reset.holds al = true ∧ State.reset.holds nv = false ∧ (1 : Reg) ≠ 31 ∧ (2 : Reg) ≠ 31 ∧
    (3 : Reg) ≠ 31 ∧ (1 : Reg) ≠ 2 ∧ (1 : Reg) ≠ 3 ∧ (2 : Reg) ≠ 3 := by decide

/-- A slot that never executes and names register `r`. -/
def idle (r : Reg) : Slot := .instr (.movShort nv r 0 0)

/-- PacketWritesOnlyNamedDestinations, PacketChangesOnlyStoredBytes, PcAdvancesBySixteen and the first clause of
LanesReadTheOldStateAndCommitTogether: a packet with a next state that
names R1 to R4 and no predicate, holds no store, no writer of ovf, no branch, and raises nothing. -/
theorem witness_plain_packet :
    isNext (runPacket [.instr (.addShort al 1 1 5 0), idle 2, idle 3, idle 4] State.reset) = true ∧
    (∀ i, .instr i ∈ [.instr (.addShort al 1 1 5 0), idle 2, idle 3, idle 4] →
      i.gprDest ≠ some 9 ∧ i.predDest ≠ some 0 ∧ Form.writesOvf i.form = false ∧ Form.isStore i.form = false ∧
      Form.redirects i.form = false) ∧
    (∀ k : Fin 4, (runSlot (lanesFrom 0 [.instr (.addShort al 1 1 5 0), idle 2, idle 3, idle 4]) State.reset k.val
      ([.instr (.addShort al 1 1 5 0), idle 2, idle 3, idle 4][k])).exc = none) := by
  refine ⟨by decide, ?_, by decide⟩
  intro i h
  simp only [idle, List.mem_cons, Slot.instr.injEq, List.not_mem_nil, or_false] at h
  rcases h with rfl | rfl | rfl | rfl <;> decide

/-- RaisingPacketIsCancelledAndTraps: a SYSCALL raises. -/
theorem witness_raising : isNext (runPacket [.instr (.syscall al), idle 1, idle 2, idle 3] State.reset) = true ∧
    (runSlot (lanesFrom 0 [.instr (.syscall al), idle 1, idle 2, idle 3]) State.reset 0 (.instr (.syscall al))).exc ≠ none := by
  decide

/-- A SYSCALL cancels the store beside it, whatever FAULT_PACKET_STORE is (46_system.md R302). -/
theorem test_syscall_cancels_store : (next (runPacket [.instr (.syscall al), .instr (.sw al 3 2 0), idle 2, idle 3]
    (withMem 0x1000 0xAABBCCDD))).mem = (withMem 0x1000 0).mem := by decide

/-- RaisingPacketIsCancelledAndTraps: two stores beside a slot that raises. -/
theorem witness_raising_stores : let slots : List Slot := [.instr (.sw al 3 2 0), .instr (.sb al 2 2 4), .undefined, idle 4]
    isNext (runPacket slots (withMem 0x1000 9)) = true ∧
    (runSlot (lanesFrom 0 slots) (withMem 0x1000 9) 0 (.instr (.sw al 3 2 0))).queue = [.store 0x1000 4 9] ∧
    (runSlot (lanesFrom 0 slots) (withMem 0x1000 9) 1 (.instr (.sb al 2 2 4))).queue = [.store 0x1004 1 0x1000] ∧
    (runSlot (lanesFrom 0 slots) (withMem 0x1000 9) 2 .undefined).exc ≠ none := by decide

/-- MisplacedOrUndefinedSlotIsIllegal, each clause at its boundary slot. -/
theorem witness_misplaced :
    isNext (runPacket [idle 1, idle 2, idle 3, .undefined] State.reset) = true ∧
    isNext (runPacket [idle 1, .instr (.fence nv), idle 3, idle 4] State.reset) = true ∧
    isNext (runPacket [idle 1, idle 2, .instr (.lw nv 3 0 0), idle 4] State.reset) = true ∧
    isNext (runPacket [idle 1, idle 2, idle 3, .instr (.movLong nv 4 0)] State.reset) = true ∧
    (Instr.fence nv).cls = .control ∧ (Instr.lw nv 3 0 0).cls = .memory ∧ (Instr.movLong nv 4 0).cls = .alu ∧
    (Instr.movLong nv 4 0).long = true := by decide

/-- DuplicateDestinationTrapsBothLanes, for a general register in slots 0 and 1 and a predicate register in slots 2 and 3. -/
theorem witness_duplicate :
    isNext (runPacket [.instr (.movShort al 5 1 0), .instr (.movShort al 5 2 0), idle 3, idle 4] State.reset) = true ∧
    isNext (runPacket [idle 1, idle 2, .instr (.cmpeqShort al 2 0 0 0), .instr (.cmpeqShort al 2 0 1 0)] State.reset) = true ∧
    (Instr.movShort al 5 1 0).gprDest = some 5 ∧ (Instr.cmpeqShort al 2 0 0 0).predDest = some 2 := by decide

/-- DuplicateDestinationTrapsBothLanes beside the mode: an MFC to R5 in user mode records Illegal Instruction, the MOV to R5
beside it Duplicate Destination (40_packet_and_operands.md R170). -/
theorem witness_duplicate_user : let s := { State.reset with mode := .user }
    let slots : List Slot := [.instr (.mfc al 5 0), .instr (.movShort al 5 2 0), idle 3, idle 4]
    isNext (runPacket slots s) = true ∧ (Instr.mfc al 5 0).gprDest = some 5 ∧ (Instr.mfc al 5 0).kernelOnly = true ∧
    ((lanesFrom 0 slots).map fun l => (runSlot (lanesFrom 0 slots) s l.1 (.instr l.2)).exc.map (·.code)) =
      [some .illegalInstruction, some .duplicateDestination, none, none] := by decide

/-- UndecidedPacketsAreRefused: two MOVs to R5, two compares into P1, two compares into P3, an LL beside an SC and beside an
ERET. -/
theorem witness_undecided :
    namedTwice Instr.gprDest 5 [.instr (.movShort al 5 1 0), .instr (.movShort nv 5 2 0), idle 3, idle 4] ∧
    namedTwice Instr.predDest 1 [idle 1, .instr (.cmpeqShort al 1 0 0 0), idle 3, .instr (.cmpeqShort nv 1 0 1 0)] ∧
    namedTwice Instr.predDest 3 [.instr (.cmpeqShort al 3 0 0 0), .instr (.cmpeqShort al 3 0 1 0), idle 3, idle 4] ∧
    (∀ (i : Instr), .instr i ∈ [Slot.instr (.movShort al 5 1 0), .instr (.movShort nv 5 2 0)] → i.gprDest = some 5) ∧
    State.reset.holds nv = false ∧ State.reset.holds al = true ∧
    (Instr.sc al 1 2 0).pred = al ∧ (Instr.eret al).pred = al := by
  refine ⟨⟨0, 1, _, _, by decide, rfl, rfl, rfl, rfl⟩, ⟨1, 3, _, _, by decide, rfl, rfl, rfl, rfl⟩,
    ⟨0, 1, _, _, by decide, rfl, rfl, rfl, rfl⟩, ?_, by decide, by decide, rfl, rfl⟩
  intro i h
  simp only [List.mem_cons, Slot.instr.injEq, List.not_mem_nil, or_false] at h
  rcases h with rfl | rfl <;> rfl

/-- UndecidedPacketsAreRefused: of the two namers of R5 only one executes. -/
theorem witness_one_writer : oneWriterAtMost Instr.gprDest 5
    [.instr (.movShort al 5 1 0), .instr (.movShort nv 5 2 0), idle 3, idle 4] State.reset := by
  intro j k a b hjk ha hb h1 h2
  match j, k, hjk with
  | 0, 1, _ => injection hb with hb; injection hb with hb; subst hb; exact .inr (by decide)
  | 0, 2, _ => injection hb with hb; injection hb with hb; subst hb; exact .inr (by decide)
  | 0, 3, _ => injection hb with hb; injection hb with hb; subst hb; exact .inr (by decide)
  | 1, _, _ => injection ha with ha; injection ha with ha; subst ha; exact .inl (by decide)
  | 2, _, _ => injection ha with ha; injection ha with ha; subst ha; exact .inl (by decide)
  | 3, _, _ => injection ha with ha; injection ha with ha; subst ha; exact .inl (by decide)
  | 0, k + 4, _ => simp at hb
  | j + 4, _, _ => simp at ha

/-- OverlappingAccessesAreRefused: SW of a word in slot 0 and LB of its last byte in slot 1. -/
theorem witness_overlap : let slots : List Slot := [.instr (.sw al 3 2 0), .instr (.lb al 1 2 3), idle 2, idle 3]
    let s := withMem 0x1000 0
    packetRefusal (lanesFrom 0 slots) s = none ∧
    (runSlot (lanesFrom 0 slots) s 0 (.instr (.sw al 3 2 0))).access = some ⟨0x1000, 4, true⟩ ∧
    (runSlot (lanesFrom 0 slots) s 1 (.instr (.lb al 1 2 3))).access = some ⟨0x1003, 1, false⟩ := by decide

/-- InterruptIsTakenIfEnabledAndPending: USB and SD Card are pending; they are with interrupts disabled; nothing is pending
now, while something is at the next boundary; after the list nothing, or any set, is pending. -/
theorem witness_interrupt : let s : State := { State.reset with ie := true, irqs := [[.sdCard, .usb], []] }
    s.ie = true ∧ s.irqs = [.sdCard, .usb] :: [[]] ∧ s.pendingIrqs ≠ [] ∧ ({ s with ie := false }).ie = false ∧
    ({ s with irqs := [[], [.usb]] }).pendingIrqs = [] ∧ State.reset.irqs = [] ∧ State.reset.irqsThen = .never ∧
    ({ s with irqs := [], irqsThen := .source }).irqsThen = .source := by decide

/-- Paging on, PTB 0x1000, one mapped user page: virtual page 0 to physical page 3, writeable; and a kernel-only, read-only
page: virtual page 1. Virtual page 2 is not present. -/
def paged (mode : Mode) : State :=
  { State.reset with
    pe := true, ptb := 0x1000, mode := mode
    mem := [(0x1000, 0x03#8), (0x1001, 0x20#8), (0x1002, 0#8), (0x1003, 0#8), (0x2000, 0x03#8), (0x2001, 0x30#8), (0x2002, 0#8),
      (0x2003, 0#8), (0x2004, 0x05#8), (0x2005, 0x40#8), (0x2006, 0#8), (0x2007, 0#8), (0x2008, 0#8), (0x2009, 0#8),
      (0x200A, 0#8), (0x200B, 0#8)] }

/-- FailedFetchTrapsWithItsCode: the first physical address that does not exist; a page that is not
present; and a kernel-only page, whose entry the instruction TLB takes up. -/
theorem witness_failed_fetch : let s : State := { State.reset with pc := 0x20000000 }
    s.takenIrq = none ∧ s.pe = false ∧ s.physValid s.pc.toNat = false ∧
    s.passBoundary.translate 0 .fetch s.pc = .invalidPhysical [] ∧
    ({ paged .user with pc := 0x2000 }).passBoundary.translate 0 .fetch 0x2000 = .pageFault [] ∧
    ∃ e, ({ paged .user with pc := 0x1000 }).passBoundary.translate 0 .fetch 0x1000 = .pageFault [e] :=
  ⟨by decide, by decide, by decide, by decide, by decide, ⟨1, 4, false, true, false⟩, by decide⟩

/-- EveryStepKeepsTheInvariant and the first clause of UserModeReachesKernelStateOnlyByTrap: a state whose step has a next
state, in user mode. -/
theorem witness_user_step : ({ placed with mode := .user }).inv = true ∧ isNext (step { placed with mode := .user }) = true ∧
    (next (step { placed with mode := .user })).mode = .user := by decide

/-- The second clause of UserModeReachesKernelStateOnlyByTrap: SYSCALL. -/
theorem witness_user_trap : isNext (step { State.reset.withFetchWord 32 0xD1200000 with mode := .user }) = true ∧
    (next (step { State.reset.withFetchWord 32 0xD1200000 with mode := .user })).mode = .kernel := by decide

/-- KernelModeIsLeftOnlyByEret: ERET with EPC = 0, whose bit M is 0 wherever it stands. -/
theorem witness_leaves_kernel : (State.reset.withFetchWord 32 0xD1400000).mode = .kernel ∧
    isNext (step (State.reset.withFetchWord 32 0xD1400000)) = true ∧
    (next (step (State.reset.withFetchWord 32 0xD1400000))).mode = .user := by
  refine ⟨by decide, by decide, ?_⟩
  have h : (next (step (State.reset.withFetchWord 32 0xD1400000))).mode =
      if (0#32).getLsbD epcMBit then .kernel else .user := by rfl
  rw [h]
  simp

/-- OnlyLoadLinkedSetsTheLinkBit: LL R1, (R2) with R2 = 0, which reads its own packet. -/
theorem witness_link : (State.reset.withFetchWord 32 0xD2000C22).link = false ∧
    isNext (step (State.reset.withFetchWord 32 0xD2000C22)) = true ∧
    (next (step (State.reset.withFetchWord 32 0xD2000C22))).link = true := by decide

/-- WalkCombinesTheTwoLevels: two pages; a table entry that is not present; a directory entry that is not present; and, on
a board whose RAM ends at 0x2000, a table and a directory that do not exist. -/
theorem witness_walk : let short (size : Nat) (s : State) : State := { s with physMap := [⟨0, size, .ram⟩] }
    (paged .user).l2Word 4 0x1000 = some 0x2003#32 ∧ (paged .user).l2Word 5 0x2000 = some 0x3003#32 ∧
    (paged .user).l2Word 5 0x2004 = some 0x4005#32 ∧ (paged .user).physValid 0x1000 = true ∧
    (paged .user).physValid 0x2004 = true ∧ (paged .user).l2Word 5 0x2008 = some 0#32 ∧
    ({ paged .user with ptb := 0x2000 }).l2Word 4 0x2008 = some 0#32 ∧
    (short 0x2000 (paged .user)).physValid 0x1000 = true ∧ (short 0x2000 (paged .user)).l2Word 4 0x1000 = some 0x2003#32 ∧
    (short 0x2000 (paged .user)).physValid 0x2000 = false ∧ (short 0x1000 (paged .user)).physValid 0x1000 = false := by decide

/-- Bits printed X are ignored: SYSCALL with ones in 19:0, MOV Register with ones in 4:0, FLUSH with ones around its fields
(30_encoding.md R138, R145). -/
theorem test_dont_care_bits : decodeWord 0xD12FFFFF#32 0#32 = .ok (.syscall al) ∧
    decodeWord 0xD408203F#32 0#32 = .ok (.movReg al 1 0 .lsr 0#5) ∧
    decodeWord 0xD15FF7E2#32 0#32 = .ok (.flush al .inst 2) := by decide

/-- PagePermissionsGuardAccesses: a page that admits the access, one that is kernel-only and read-only, one that is not
present, and one whose translation the data TLB holds. -/
theorem witness_permissions : (paged .user).pe = true ∧ (paged .user).dtlb = [] ∧
    (paged .user).lookup 1 .read 0x123 = .entry ⟨0, 3, false, false, true⟩ ∧
    (paged .user).lookup 1 .write 0x1000 = .entry ⟨1, 4, false, true, false⟩ ∧
    (paged .user).lookup 1 .read 0x2000 = .notPresent ∧
    ({ paged .user with dtlb := [⟨0, 3, false, false, true⟩] }).lookup 1 .read 0x123 = .entry ⟨0, 3, false, false, true⟩ := by
  decide

/-- FlushDataThenInstMakesFetchCoherent: the line of address 0. -/
theorem witness_coherent : State.reset.translate 1 .read (State.reset.reg 1) = .ok 0 [] ∧
    isNext (exec (.flush al .data 1) State.reset) = true ∧
    (next (exec (.flush al .data 1) State.reset)).translate 1 .read 0 = .ok 0 [] ∧ sameLine 0 0 = true ∧
    State.reset.isRam 0 = true := by
  refine ⟨by decide, by decide, by decide, by simp [sameLine], by decide⟩

/-- The later clauses of PacketWritesOnlyNamedDestinations and PacketChangesOnlyStoredBytes: a packet with a next state that
stores, in which no lane raises and no MTC, ERET, FLUSH, LL or SC executes. -/
theorem witness_storing_packet : let slots : List Slot := [.instr (.sw al 1 2 0), idle 2, idle 3, idle 4]
    isNext (runPacket slots (withMem 0x1000 0)) = true ∧ raisesNothing slots (withMem 0x1000 0) ∧
    storesTo slots (withMem 0x1000 0) 0x1003 ∧
    ∀ p n r ty off, ¬ executes slots (withMem 0x1000 0) (.mtc p n r) ∧ ¬ executes slots (withMem 0x1000 0) (.eret p) ∧
      ¬ executes slots (withMem 0x1000 0) (.flush p ty r) ∧ ¬ executes slots (withMem 0x1000 0) (.ll p r n off) ∧
      ¬ executes slots (withMem 0x1000 0) (.sc p r n off) := by
  refine ⟨by decide, ?_, ⟨0, _, 0x1000, 4, 0#32, rfl, by decide, by decide, by decide⟩, by simp [executes, idle]⟩
  have h : ∀ k : Fin 4, (runSlot (lanesFrom 0 [.instr (.sw al 1 2 0), idle 2, idle 3, idle 4]) (withMem 0x1000 0) k.val
      ([.instr (.sw al 1 2 0), idle 2, idle 3, idle 4][k])).exc = none := by decide
  intro k x hx
  match k with
  | 0 => cases hx; exact h 0
  | 1 => cases hx; exact h 1
  | 2 => cases hx; exact h 2
  | 3 => cases hx; exact h 3
  | _ + 4 => cases hx

/-- The clauses about bytes nothing has written of LoadResults (in slots 0 and 1; the packets are those of witness_sole),
FailedFetchTrapsWithItsCode, WalkCombinesTheTwoLevels, MemoryInstructionsTrapWithTheirAddress, FlushLineResults and
PagePermissionsGuardAccesses, whose paging-off clause State.reset meets. -/
theorem witness_unwritten : let s := { paged .user with ptb := 0x5000 }
    State.reset.pe = false ∧
    (∀ k : Fin 2, State.reset.translate (k + 1) .read (State.reset.reg 2) = .ok 0 [] ∧
      State.reset.dataByte (3 * (k + 1)) 0 = none ∧ s.translate (k + 1) .read (s.reg 2) = .unwritten 0x5000 ∧
      s.translate (k + 1) .write (s.reg 2) = .unwritten 0x5000) ∧
    State.reset.takenIrq = none ∧ State.reset.passBoundary.translate 0 .fetch State.reset.pc = .ok 0 [] ∧
    State.reset.passBoundary.packetAt 0 = none ∧ s.takenIrq = none ∧ s.physValid 0x5000 = true ∧ s.l2Word 4 0x5000 = none ∧
    s.passBoundary.translate 0 .fetch s.pc = .unwritten 0x5000 ∧ s.lookup 1 .read 0 = .unwritten 0x5000 ∧
    ({ s with ptb := 0x2000 }).l2Word 4 0x2000 = some 0x3003#32 ∧ ({ s with ptb := 0x2000 }).l2Word 5 0x3000 = none := by decide

/-- FalsePredicateDoesNothing. -/
theorem witness_false_predicate : State.reset.holds (Instr.fence nv).pred = false := by decide

/-- ShiftBits, SecondOperandByFormat and CompareBitsClearResults: the least and the greatest bit. -/
theorem witness_bits : 0 < 32 ∧ 31 < 32 := by decide

/-- LoadResults and LoadLinkedResult: each width, at an unaligned address, in slots 0 and 1. -/
theorem witness_loads : let s := withMem 0x1003 0
    s.holds al = true ∧ s.isRam 0x1000 = true ∧ ∀ k : Fin 2,
      s.translate (k + 1) .read (s.reg 2 + (0#12).signExtend 32) = .ok 0x1003 [] ∧
      s.translate (k + 1) .read ((s.reg 2 + (0#12).signExtend 32) &&& 0xFFFFFFFE) = .ok 0x1002 [] ∧
      s.translate (k + 1) .read ((s.reg 2 + (0#12).signExtend 32) &&& 0xFFFFFFFC) = .ok 0x1000 [] ∧
      s.dataByte (3 * (k + 1)) 0x1000 = some 0x78#8 ∧ s.dataByte (3 * (k + 1)) 0x1001 = some 0x56#8 ∧
      s.dataByte (3 * (k + 1)) 0x1002 = some 0x34#8 ∧ s.dataByte (3 * (k + 1)) 0x1003 = some 0xF2#8 := by decide

/-- The statements about slots 0 and 1: a load alone in each, in any state, for `al` always holds. -/
theorem witness_sole (k : Fin 2) (s : State) : let i : Instr := .lw al 9 2 0
    soleIn k i (if k = 0 then [.instr i, idle 1, idle 2, idle 3] else [idle 1, .instr i, idle 2, idle 3]) s := by
  match k with
  | 0 =>
    refine ⟨rfl, rfl, by decide, by decide, fun j x hj hx => ?_⟩
    match j, hj with
    | 1, _ => injection hx with hx; injection hx with hx; subst hx; rfl
    | 2, _ => injection hx with hx; injection hx with hx; subst hx; rfl
    | 3, _ => injection hx with hx; injection hx with hx; subst hx; rfl
    | j + 4, _ => simp at hx
  | 1 =>
    refine ⟨rfl, rfl, by decide, by decide, fun j x hj hx => ?_⟩
    match j, hj with
    | 0, _ => injection hx with hx; injection hx with hx; subst hx; rfl
    | 2, _ => injection hx with hx; injection hx with hx; subst hx; rfl
    | 3, _ => injection hx with hx; injection hx with hx; subst hx; rfl
    | j + 4, _ => simp at hx

/-- A machine with a device register at 0x1000 (20_memory.md R75). -/
def withDevice : State :=
  { withMem 0x1000 7 with physMap := { first := 0x1000, size := 4, kind := .device } :: PhysMap.default, mem := [] }

/-- A map may divide a word: of a store over a device byte, the bytes in RAM are stored (20_memory.md R75; log 6). -/
theorem test_divided_word : let s := { withDevice with physMap := { first := 0x1001, size := 1, kind := .device } :: PhysMap.default }
    (next (exec (.sw al 2 2 0) s)).mem = [(0x1000, 0#8), (0x1002, 0#8), (0x1003, 0#8)] := by decide

/-- A load of a device register runs, and a store to it leaves memory alone. -/
theorem test_device_access : isNext (exec (.lw al 1 2 0) withDevice) = true ∧
    (next (exec (.sw al 3 2 0) withDevice)).mem = [] ∧ (next (exec (.sw al 3 2 16) withDevice)).mem.length = 4 := by decide

/-- StoreResults, StoreConditionalSucceedsWithLink and StoreConditionalFailsWithoutLink: the top of physical memory, in slots
0 and 1. -/
theorem witness_stores : let s := { withMem 0x1FFFFFFF 0 with link := true }
    s.holds al = true ∧ s.link = true ∧ (withMem 0 0).link = false ∧ ∀ k : Fin 2,
    s.translate (k + 1) .write (s.reg 2 + (0#12).signExtend 32) = .ok 0x1FFFFFFF [] ∧
    s.translate (k + 1) .write ((s.reg 2 + (0#12).signExtend 32) &&& 0xFFFFFFFE) = .ok 0x1FFFFFFE [] ∧
    s.translate (k + 1) .write ((s.reg 2 + (0#12).signExtend 32) &&& 0xFFFFFFFC) = .ok 0x1FFFFFFC [] := by decide

/-- MemoryInstructionsTrapWithTheirAddress: a page that is not present, read and written, and an address that does not
exist, in slots 0 and 1. -/
theorem witness_memory_traps : (paged .user).holds al = true ∧ ∀ k : Fin 2,
    ((paged .user).setReg 2 0x2001).translate (k + 1) .read 0x2000 = .pageFault [] ∧
    ((paged .user).setReg 2 0x2001).translate (k + 1) .read 0x2001 = .pageFault [] ∧
    ((paged .user).setReg 2 0x2001).translate (k + 1) .write 0x2000 = .pageFault [] ∧
    (withMem 0x20000000 0).translate (k + 1) .write 0x20000000 = .invalidPhysical [] ∧
    (withMem 0x20000000 0).translate (k + 1) .read 0x20000000 = .invalidPhysical [] := by decide

/-- DivisionResults: operands below and above 2^31; DivisionByZeroTraps. -/
theorem witness_division : (with12 100 7).reg 2 ≠ 0#32 ∧ ((with12 100 7).reg 1).toNat < 2 ^ 31 ∧ ((with12 100 7).reg 2).toNat < 2 ^ 31 ∧
    (with12 0xFFFFFFFF 0xFFFFFFFE).reg 2 ≠ 0#32 ∧ (with12 100 0).reg 2 = 0#32 := by decide

/-- FlushLineResults: the three answers of the translation. -/
theorem witness_flush_line : (paged .user).translate 1 .read 0x2000 = .pageFault [] ∧
    (withMem 0x20000000 0).translate 1 .read ((withMem 0x20000000 0).reg 2) = .invalidPhysical [] ∧
    (withMem 0x1000 0).translate 1 .read ((withMem 0x1000 0).reg 2) = .ok 0x1000 [] := by decide

/-- The statements about kernel mode, user mode and true predicates: EretRestores, MoveFromCoprocessorResults,
MoveToCoprocessorResults, PageTableBaseWriteDropsNonGlobalEntries, SyscallAndBreakTrap, FlushTlbResults,
UnassignedCoprocessorNumberIsRefused at its boundary numbers, KernelInstructionsTrapInUserMode. -/
theorem witness_modes : State.reset.mode = .kernel ∧ State.reset.holds al = true ∧ ({ State.reset with mode := .user }).mode = .user ∧
    ({ State.reset with mode := .user }).holds al = true ∧ copAssigned 9 = true ∧ copAssigned 10 = false ∧ copAssigned 15 = false ∧
    copAssigned 16 = true ∧ copAssigned 19 = true ∧ copAssigned 20 = false ∧ copAssigned 31 = false := by decide

end Sys2Proof.Tests
end

section
/-! SUPPORT. What an instruction may queue: the model's lanes said once for each family of instructions, and the writes each
family queues, by the destinations it names. -/
namespace Sys2Proof.Machine

/-! ## A packet address -/

/-- The address of a packet: a multiple of 16 (10_state.md R23). -/
def atPacket (v : Word) : Prop := v.extractLsb' 0 4 = 0#4

theorem atPacket_add {a b : Word} (ha : atPacket a) (hb : atPacket b) : atPacket (a + b) := by
  unfold atPacket at *
  rw [← BitVec.setWidth_eq_extractLsb' (by decide)] at *
  rw [BitVec.setWidth_add _ _ (by decide), ha, hb]
  rfl

theorem atPacket_and_mask (v : Word) : atPacket (v &&& 0xFFFFFFF0#32) := by
  unfold atPacket
  rw [BitVec.extractLsb'_and]
  exact BitVec.and_zero

theorem atPacket_signExtend (off : BitVec 25) : atPacket ((off ++ 0#4).signExtend 32) := by
  unfold atPacket
  ext i hi
  have h29 : i < 29 := by omega
  have low : (off ++ 0#4)[i] = false := by rw [BitVec.getElem_append]; simp [hi]
  simp [BitVec.getLsbD_signExtend, h29, low]

/-- A branch from a packet leads to a packet (44_branch.md R270). -/
theorem atPacket_target {s : State} (h : atPacket s.pc) (g : Target) : atPacket (Target.addr s g) := by
  cases g with
  | imm off => exact atPacket_add h (atPacket_signExtend off)
  | reg rs off => exact atPacket_and_mask _

/-! ## The lane of a family form -/

/-- How many bytes a load reads. -/
def LoadOp.bytes : LoadOp → Nat
  | .lbOp => 1
  | .lhOp => 2
  | .lwOp => 4
  | .llOp => 4

/-- What a load writes besides Rd. -/
def LoadOp.extra : LoadOp → List Write
  | .llOp => [.link true]
  | _ => []

/-- What a store yields. -/
def StoreOp.lane : StoreOp → Reg → Reg → BitVec 12 → Nat → State → LaneOut
  | .sbOp => storeLane 1 []
  | .shOp => storeLane 2 []
  | .swOp => storeLane 4 []
  | .scOp => laneSc

/-- What a branch queues: BL writes R31 too. -/
def branchLane (link : Bool) (g : Target) (s : State) : LaneOut :=
  .writes (bif link then [.gpr 31 s.pc, .pc (Target.addr s g)] else [.pc (Target.addr s g)])

/-- What an instruction of the Control format yields. -/
def CtlOp.lane : CtlOp → Nat → State → LaneOut
  | .brkOp => laneBrk
  | .syscallOp => laneSyscall
  | .fenceOp => laneFence
  | .eretOp => laneEret
  | .flushOp ty rs => laneFlush ty rs
  | .mfcOp rd n => laneMfc rd n
  | .mtcOp n rs => laneMtc n rs
  | .mfhiOp rd => laneMfhi rd
  | .mthiOp rs => laneMthi rs
  | .multOp rd rs rt => laneMult rd rs rt
  | .multsOp rd rs rt => laneMults rd rs rt
  | .divOp rd rs rt => laneDiv rd rs rt

/-- What an instruction yields, said once for each family. -/
def Form.lane (k : Nat) (s : State) : Form → LaneOut
  | .alu2 o _ rd rs b => alu2Lane o rd rs b s
  | .alu1 o _ rd b => alu1Lane o rd b s
  | .cmp o _ pd rs b => cmpLane o pd rs b s
  | .load o _ rd rs off => loadLane (LoadOp.bytes o) (LoadOp.extra o) rd rs off k s
  | .store o _ rt rs off => StoreOp.lane o rt rs off k s
  | .branch link _ g => branchLane link g s
  | .ctl c _ => CtlOp.lane c k s

/-- The model's lanes, by family. -/
theorem laneOf_eq_lane (i : Instr) (k : Nat) (s : State) : laneOf i k s = Form.lane k s i.form := by
  cases i <;> rfl

/-- An instruction is given by its family form. -/
theorem instr_form (i : Instr) : i.form.instr = i := by
  cases i <;> rfl

/-! ## What a lane may queue -/

/-- The writes an instruction may queue in state `s`, by the destinations it names and the state it changes; the pc it
queues is a packet address if it runs in a packet at one. -/
def Form.mayQueue (s : State) (f : Form) : Write → Prop
  | .gpr r _ => f.gprDest = some r
  | .pred n _ => f.predDest = some n
  | .ovf _ => Form.writesOvf f = true
  | .link true => Form.setsLink f = true
  | .link false => Form.clearsLink f = true
  | .cop c _ => ∃ n rs p, copOfNum n = some c ∧ f = .ctl (.mtcOp n rs) p
  | .mode _ => ∃ p, f = .ctl .eretOp p
  | .ie _ => ∃ p, f = .ctl .eretOp p
  | .pc v => Form.redirects f = true ∧ (atPacket s.pc → atPacket v)
  | .store .. => Form.isStore f = true
  | .flushData _ => ∃ rs p, f = .ctl (.flushOp .data rs) p
  | .flushInst _ => ∃ rs p, f = .ctl (.flushOp .inst rs) p
  | .flushDtlb _ => ∃ rs p, f = .ctl (.flushOp .dtlb rs) p
  | .flushItlb _ => ∃ rs p, f = .ctl (.flushOp .itlb rs) p


/-- A data access queues what its use of the physical address queues. -/
theorem mem_queue_accessLane {s : State} {k n : Nat} {kind : AccessKind} {addr : Word}
    {use : Nat → List TlbEntry → LaneOut} {w : Write} (h : w ∈ (accessLane s k n kind addr use).queue) :
    ∃ pa fills, w ∈ (use pa fills).queue := by
  unfold accessLane at h
  split at h
  · exact ⟨_, _, h⟩
  all_goals cases h

/-- A load queues its write of Rd and its further writes. -/
theorem mem_queue_loadLane {n k : Nat} {ws : List Write} {rd rs : Reg} {off : BitVec 12} {s : State} {w : Write}
    (h : w ∈ (loadLane n ws rd rs off k s).queue) : (∃ v, w = .gpr rd v) ∨ w ∈ ws := by
  obtain ⟨pa, fills, h⟩ := mem_queue_accessLane h
  split at h
  · exact (List.mem_cons.mp h).imp_left fun h => ⟨_, h⟩
  · cases h

/-- A store queues its store and its further writes. -/
theorem mem_queue_storeLane {n k : Nat} {ws : List Write} {rt rs : Reg} {off : BitVec 12} {s : State} {w : Write}
    (h : w ∈ (storeLane n ws rt rs off k s).queue) : (∃ pa, w = .store pa n (s.reg rt)) ∨ w ∈ ws := by
  obtain ⟨pa, fills, h⟩ := mem_queue_accessLane h
  exact (List.mem_cons.mp h).imp_left fun h => ⟨_, h⟩

/-- A FLUSH of a line queues that flush. -/
theorem mem_queue_flushLineLane {mk : Nat → Write} {rs : Reg} {k : Nat} {s : State} {w : Write}
    (h : w ∈ (flushLineLane mk rs k s).queue) : ∃ pa, w = mk pa := by
  unfold flushLineLane at h
  split at h
  · exact ⟨_, List.mem_singleton.mp h⟩
  all_goals cases h

theorem mayQueue_load {o : LoadOp} {p : Pred} {rd rs : Reg} {off : BitVec 12} {k : Nat} {s : State} {w : Write}
    (h : w ∈ (Form.lane k s (.load o p rd rs off)).queue) : Form.mayQueue s (.load o p rd rs off) w := by
  obtain ⟨v, rfl⟩ | h := mem_queue_loadLane h
  · rfl
  · cases o with
    | llOp => cases List.mem_singleton.mp h; rfl
    | _ => cases h

theorem mayQueue_store {o : StoreOp} {p : Pred} {rt rs : Reg} {off : BitVec 12} {k : Nat} {s : State} {w : Write}
    (h : w ∈ (Form.lane k s (.store o p rt rs off)).queue) : Form.mayQueue s (.store o p rt rs off) w := by
  cases o with
  | scOp =>
    change w ∈ (laneSc rt rs off k s).queue at h
    unfold laneSc at h
    split at h
    · obtain ⟨pa, rfl⟩ | h := mem_queue_storeLane h
      · rfl
      · obtain rfl | rfl := List.mem_pair.mp h <;> rfl
    · obtain rfl | rfl := List.mem_pair.mp h <;> rfl
  | _ =>
    obtain ⟨pa, rfl⟩ | h := mem_queue_storeLane h
    · rfl
    · cases h

theorem mayQueue_branch {link : Bool} {p : Pred} {g : Target} {k : Nat} {s : State} {w : Write}
    (h : w ∈ (Form.lane k s (.branch link p g)).queue) : Form.mayQueue s (.branch link p g) w := by
  have hpc : Form.mayQueue s (.branch link p g) (.pc (Target.addr s g)) := ⟨rfl, fun h => atPacket_target h g⟩
  cases link with
  | false => cases List.mem_singleton.mp h; exact hpc
  | true =>
    obtain rfl | rfl := List.mem_pair.mp h
    · rfl
    · exact hpc

theorem mayQueue_ctl {c : CtlOp} {p : Pred} {k : Nat} {s : State} {w : Write}
    (h : w ∈ (Form.lane k s (.ctl c p)).queue) : Form.mayQueue s (.ctl c p) w := by
  simp only [Form.lane] at h
  cases c with
  | brkOp => cases h
  | syscallOp => cases h
  | fenceOp => cases h
  | eretOp =>
    have h : w ∈ eretWrites s := h
    simp only [eretWrites, List.mem_cons, List.not_mem_nil, or_false] at h
    obtain rfl | rfl | rfl | rfl := h
    · exact ⟨rfl, fun _ => atPacket_and_mask _⟩
    · exact ⟨p, rfl⟩
    · exact ⟨p, rfl⟩
    · rfl
  | flushOp ty rs =>
    cases ty with
    | data => obtain ⟨pa, rfl⟩ := mem_queue_flushLineLane h; exact ⟨rs, p, rfl⟩
    | inst => obtain ⟨pa, rfl⟩ := mem_queue_flushLineLane h; exact ⟨rs, p, rfl⟩
    | dtlb => cases List.mem_singleton.mp h; exact ⟨rs, p, rfl⟩
    | itlb => cases List.mem_singleton.mp h; exact ⟨rs, p, rfl⟩
  | mfcOp rd n =>
    simp only [CtlOp.lane, laneMfc] at h
    split at h
    · cases List.mem_singleton.mp h; rfl
    · cases h
  | mtcOp n rs =>
    simp only [CtlOp.lane, laneMtc] at h
    split at h
    · rename_i c hc
      cases List.mem_singleton.mp h
      exact ⟨n, rs, p, hc, rfl⟩
    · cases h
  | mfhiOp rd => cases List.mem_singleton.mp h; rfl
  | mthiOp rs => cases List.mem_singleton.mp h; rfl
  | multOp rd rs rt =>
    obtain rfl | rfl := List.mem_pair.mp h <;> rfl
  | multsOp rd rs rt =>
    obtain rfl | rfl := List.mem_pair.mp h <;> rfl
  | divOp rd rs rt =>
    simp only [CtlOp.lane, laneDiv] at h
    split at h
    · cases h
    · obtain rfl | rfl := List.mem_pair.mp h <;> rfl

/-- An instruction queues only writes of the destinations it names and of the state it changes. -/
theorem mayQueue_of_mem_queue {f : Form} {k : Nat} {s : State} {w : Write} (h : w ∈ (Form.lane k s f).queue) :
    Form.mayQueue s f w := by
  cases f with
  | alu2 o p rd rs b => cases List.mem_singleton.mp h; rfl
  | alu1 o p rd b => cases List.mem_singleton.mp h; rfl
  | cmp o p pd rs b => cases List.mem_singleton.mp h; rfl
  | load o p rd rs off => exact mayQueue_load h
  | store o p rt rs off => exact mayQueue_store h
  | branch link p g => exact mayQueue_branch h
  | ctl c p => exact mayQueue_ctl h

end Sys2Proof.Machine
end

section
/-! SUPPORT. What the slots of a packet yield, and what each queued write leaves alone. -/
namespace Sys2Proof.Machine

/-! ## The lanes of a packet -/

/-- What the slots of a packet yield, in slot order. -/
def lanesOut (slots : List Slot) (s : State) : List LaneOut := runSlots (lanesFrom 0 slots) s 0 slots

/-- What the slots from slot `k` on yield. -/
theorem mem_runSlots {ls : List (Nat × Instr)} {s : State} {o : LaneOut} (slots : List Slot) (k : Nat) :
    o ∈ runSlots ls s k slots ↔ ∃ (j : Nat) (x : Slot), slots[j]? = some x ∧ o = runSlot ls s (k + j) x := by
  induction slots generalizing k with
  | nil => simp [runSlots]
  | cons x xs ih =>
    rw [runSlots, List.mem_cons, ih]
    constructor
    · rintro (rfl | ⟨j, y, hy, rfl⟩)
      · exact ⟨0, x, rfl, rfl⟩
      · exact ⟨j + 1, y, hy, by rw [Nat.add_right_comm, Nat.add_assoc]⟩
    · rintro ⟨_ | j, y, hy, rfl⟩
      · cases hy; exact .inl rfl
      · exact .inr ⟨j, y, hy, by rw [Nat.add_right_comm, Nat.add_assoc]⟩

theorem mem_lanesOut {slots : List Slot} {s : State} {o : LaneOut} :
    o ∈ lanesOut slots s ↔ ∃ (k : Nat) (x : Slot), slots[k]? = some x ∧ o = runSlot (lanesFrom 0 slots) s k x := by
  simp [lanesOut, mem_runSlots]

/-- A lane yields nothing, an exception without an address, or what its instruction yields, if its predicate is true. -/
theorem guardLane_cases (p : Pred) (ko dup : Bool) (lane : State → LaneOut) (s : State) :
    guardLane p ko dup lane s = .idle ∨ (∃ c, guardLane p ko dup lane s = .raise c) ∨
      s.holds p = true ∧ guardLane p ko dup lane s = lane s := by
  unfold guardLane
  split
  · rename_i hp
    split
    · exact .inr (.inl ⟨_, rfl⟩)
    · split
      · exact .inr (.inl ⟨_, rfl⟩)
      · exact .inr (.inr ⟨hp, rfl⟩)
  · exact .inl rfl

/-- A slot yields nothing, an exception without an address, or what its instruction yields, if its predicate is true. -/
theorem runSlot_cases (ls : List (Nat × Instr)) (s : State) (k : Nat) (x : Slot) :
    runSlot ls s k x = .idle ∨ (∃ c, runSlot ls s k x = .raise c) ∨
      ∃ i, x = .instr i ∧ s.holds i.pred = true ∧ runSlot ls s k x = laneOf i k s := by
  cases x with
  | operand => exact .inl rfl
  | undefined => exact .inr (.inl ⟨_, rfl⟩)
  | instr i =>
    simp only [runSlot]
    split
    · obtain h | h | ⟨hp, h⟩ := guardLane_cases i.pred i.kernelOnly (duplicateDest ls s i) (laneOf i k) s
      · exact .inl h
      · exact .inr (.inl h)
      · exact .inr (.inr ⟨i, rfl, hp, h⟩)
    · exact .inr (.inl ⟨_, rfl⟩)

/-- A write that a packet queues comes from an instruction of it whose predicate is true and that may queue it. -/
theorem exists_executes_of_mem_queue {slots : List Slot} {s : State} {w : Write}
    (h : w ∈ (lanesOut slots s).flatMap LaneOut.queue) : ∃ i, executes slots s i ∧ Form.mayQueue s i.form w := by
  obtain ⟨o, ho, hw⟩ := List.mem_flatMap.mp h
  obtain ⟨k, x, hx, rfl⟩ := mem_lanesOut.mp ho
  obtain hr | ⟨c, hr⟩ | ⟨i, rfl, hi, hr⟩ := runSlot_cases (lanesFrom 0 slots) s k x
  · rw [hr] at hw; cases hw
  · rw [hr] at hw; cases hw
  · rw [hr, laneOf_eq_lane] at hw
    exact ⟨i, ⟨List.mem_of_getElem? hx, hi⟩, mayQueue_of_mem_queue hw⟩

/-- The entries a packet's data TLB takes up are those its lanes' translations give. -/
theorem mem_fills_iff_translates {slots : List Slot} {s : State} {e : TlbEntry} :
    e ∈ (lanesOut slots s).flatMap LaneOut.fills ↔ translates slots s e := by
  simp only [List.mem_flatMap, mem_lanesOut, translates]
  constructor
  · rintro ⟨_, ⟨k, x, hx, rfl⟩, he⟩; exact ⟨k, x, hx, he⟩
  · rintro ⟨k, x, hx, he⟩; exact ⟨_, ⟨k, x, hx, rfl⟩, he⟩

/-- A next state of a packet is the commit of its lanes or their trap. -/
theorem runPacket_next {slots : List Slot} {s t : State} (h : runPacket slots s = .next t) :
    t = commit (lanesOut slots s) s ∨ t = trapPacket (lanesOut slots s) s := by
  obtain ⟨-, hf⟩ := runPacket_cases h
  obtain ⟨-, -, ⟨-, ht⟩ | ⟨-, ht⟩⟩ := finish_cases hf
  · exact .inr ht
  · exact .inl ht

/-- A packet no lane of which raises commits. -/
theorem runPacket_next_of_raisesNothing {slots : List Slot} {s t : State} (h : runPacket slots s = .next t)
    (hr : raisesNothing slots s) : t = commit (lanesOut slots s) s := by
  obtain ⟨-, hf⟩ := runPacket_cases h
  obtain ⟨-, -, ⟨hx, -⟩ | ⟨-, ht⟩⟩ := finish_cases hf
  · obtain ⟨o, ho, hx⟩ := List.any_eq_true.mp hx
    obtain ⟨k, x, hk, rfl⟩ := mem_lanesOut.mp ho
    rw [hr k x hk] at hx
    cases hx
  · exact ht

/-! ## Carrying out queued writes -/

/-- What no write of a list changes, the list does not change. -/
theorem applyAll_keeps {α : Type} (f : State → α) {ws : List Write} (h : ∀ w ∈ ws, ∀ u : State, f (u.apply w) = f u)
    (s : State) : f (s.applyAll ws) = f s := by
  induction ws generalizing s with
  | nil => rfl
  | cons w ws ih =>
    calc f (s.applyAll (w :: ws)) = f (s.apply w) := ih (fun w hw => h w (List.mem_cons_of_mem _ hw)) _
      _ = f s := h w List.mem_cons_self s

/-- What every write of a list preserves, the list preserves. -/
theorem applyAll_preserves (P : State → Prop) {ws : List Write} (h : ∀ w ∈ ws, ∀ u : State, P u → P (u.apply w))
    {s : State} (hs : P s) : P (s.applyAll ws) := by
  induction ws generalizing s with
  | nil => exact hs
  | cons w ws ih => exact ih (fun w hw => h w (List.mem_cons_of_mem _ hw)) (h w List.mem_cons_self s hs)

/-- A field of the state that is neither memory nor the L2 view stays at a store. -/
theorem storeBytes_keeps {α : Type} (f : State → α) (h : ∀ (u : State) m l, f { u with mem := m, l2old := l } = f u)
    (s : State) (a n : Nat) (v : Word) : f (s.storeBytes a n v) = f s := by
  rw [storeBytes_frame, h]

/-! ### What a store of several bytes leaves alone -/

@[simp] theorem storeBytes_regs (s : State) (a n : Nat) (v : Word) : (s.storeBytes a n v).regs = s.regs :=
  storeBytes_keeps State.regs (fun _ _ _ => rfl) s a n v
@[simp] theorem storeBytes_predReg (s : State) (a n : Nat) (v : Word) (m : PredReg) :
    (s.storeBytes a n v).predReg m = s.predReg m := storeBytes_keeps (·.predReg m) (fun _ _ _ => rfl) s a n v
@[simp] theorem storeBytes_pc (s : State) (a n : Nat) (v : Word) : (s.storeBytes a n v).pc = s.pc :=
  storeBytes_keeps State.pc (fun _ _ _ => rfl) s a n v
@[simp] theorem storeBytes_ovf (s : State) (a n : Nat) (v : Word) : (s.storeBytes a n v).ovf = s.ovf :=
  storeBytes_keeps State.ovf (fun _ _ _ => rfl) s a n v
@[simp] theorem storeBytes_link (s : State) (a n : Nat) (v : Word) : (s.storeBytes a n v).link = s.link :=
  storeBytes_keeps State.link (fun _ _ _ => rfl) s a n v
@[simp] theorem storeBytes_mode (s : State) (a n : Nat) (v : Word) : (s.storeBytes a n v).mode = s.mode :=
  storeBytes_keeps State.mode (fun _ _ _ => rfl) s a n v
@[simp] theorem storeBytes_readCop (s : State) (a n : Nat) (v : Word) (c : Cop) :
    (s.storeBytes a n v).readCop c = s.readCop c := storeBytes_keeps (·.readCop c) (fun _ _ _ => rfl) s a n v
@[simp] theorem storeBytes_itlb (s : State) (a n : Nat) (v : Word) : (s.storeBytes a n v).itlb = s.itlb :=
  storeBytes_keeps State.itlb (fun _ _ _ => rfl) s a n v
@[simp] theorem storeBytes_dtlb (s : State) (a n : Nat) (v : Word) : (s.storeBytes a n v).dtlb = s.dtlb :=
  storeBytes_keeps State.dtlb (fun _ _ _ => rfl) s a n v
@[simp] theorem storeBytes_il1old (s : State) (a n : Nat) (v : Word) : (s.storeBytes a n v).il1old = s.il1old :=
  storeBytes_keeps State.il1old (fun _ _ _ => rfl) s a n v
@[simp] theorem storeBytes_physMap (s : State) (a n : Nat) (v : Word) : (s.storeBytes a n v).physMap = s.physMap :=
  storeBytes_keeps State.physMap (fun _ _ _ => rfl) s a n v
@[simp] theorem storeBytes_irqs (s : State) (a n : Nat) (v : Word) : (s.storeBytes a n v).irqs = s.irqs :=
  storeBytes_keeps State.irqs (fun _ _ _ => rfl) s a n v
@[simp] theorem storeBytes_irqsThen (s : State) (a n : Nat) (v : Word) : (s.storeBytes a n v).irqsThen = s.irqsThen :=
  storeBytes_keeps State.irqsThen (fun _ _ _ => rfl) s a n v

/-! ### What a write of a predicate or coprocessor register leaves alone -/

@[simp] theorem State.setPredReg_readCop (s : State) (n : PredReg) (b : Bool) (c : Cop) :
    (s.setPredReg n b).readCop c = s.readCop c := by
  unfold State.setPredReg; split <;> rfl

@[simp] theorem State.writeCop_predReg (s : State) (c : Cop) (v : Word) (n : PredReg) :
    (s.writeCop c v).predReg n = s.predReg n := by
  cases c <;> rfl

theorem State.readCop_writeCop_other (s : State) {c d : Cop} (v : Word) (h : d ≠ c) :
    (s.writeCop c v).readCop d = s.readCop d := by
  cases c <;> cases d <;> trivial

theorem State.writeCop_itlb_other (s : State) {c : Cop} (v : Word) (h : c ≠ .ptb) : (s.writeCop c v).itlb = s.itlb := by
  cases c <;> trivial

theorem State.writeCop_dtlb_other (s : State) {c : Cop} (v : Word) (h : c ≠ .ptb) : (s.writeCop c v).dtlb = s.dtlb := by
  cases c <;> trivial

/-! ### What one write leaves alone -/

theorem apply_reg {w : Write} {r : Reg} (h : ∀ v, w ≠ .gpr r v) (s : State) : (s.apply w).reg r = s.reg r := by
  cases w with
  | gpr q v => exact State.reg_setReg_other _ _ _ _ fun e => h v (e ▸ rfl)
  | _ => simp [State.apply, State.reg]

theorem apply_predReg {w : Write} {n : PredReg} (h : ∀ b, w ≠ .pred n b) (s : State) :
    (s.apply w).predReg n = s.predReg n := by
  cases w with
  | pred m b => exact State.predReg_setPredReg_other _ _ _ _ fun e => h b (e ▸ rfl)
  | cop c v => exact State.writeCop_predReg s c v n
  | store pa k v => exact storeBytes_predReg s pa k v n
  | _ => rfl

theorem apply_ovf {w : Write} (h : ∀ v, w ≠ .ovf v) (s : State) : (s.apply w).ovf = s.ovf := by
  cases w with
  | ovf v => exact absurd rfl (h v)
  | _ => simp [State.apply]

theorem apply_link {w : Write} (h : ∀ b, w ≠ .link b) (s : State) : (s.apply w).link = s.link := by
  cases w with
  | link b => exact absurd rfl (h b)
  | _ => simp [State.apply]

theorem apply_mode {w : Write} (h : ∀ m, w ≠ .mode m) (s : State) : (s.apply w).mode = s.mode := by
  cases w with
  | mode m => exact absurd rfl (h m)
  | _ => simp [State.apply]

theorem apply_pc {w : Write} (h : ∀ v, w ≠ .pc v) (s : State) : (s.apply w).pc = s.pc := by
  cases w with
  | pc v => exact absurd rfl (h v)
  | _ => simp [State.apply]

/-- A coprocessor register stays at every write but one of it; PFLAGS also changes with its bit IE. -/
theorem apply_readCop {w : Write} {c : Cop} (h : ∀ v, w ≠ .cop c v) (hie : c = .pflags → ∀ b, w ≠ .ie b) (s : State) :
    (s.apply w).readCop c = s.readCop c := by
  cases w with
  | cop d v => exact State.readCop_writeCop_other s v fun e => h v (e ▸ rfl)
  | pred n b => exact State.setPredReg_readCop s n b c
  | store pa n v => exact storeBytes_readCop s pa n v c
  | ie b =>
    cases c with
    | pflags => exact absurd rfl (hie rfl b)
    | _ => rfl
  | _ => rfl

theorem apply_itlb {w : Write} (h : ∀ va, w ≠ .flushItlb va) (hc : ∀ v, w ≠ .cop .ptb v) (s : State) :
    (s.apply w).itlb = s.itlb := by
  cases w with
  | flushItlb va => exact absurd rfl (h va)
  | cop c v => exact State.writeCop_itlb_other s v fun e => hc v (e ▸ rfl)
  | _ => simp [State.apply]

theorem apply_dtlb {w : Write} (h : ∀ va, w ≠ .flushDtlb va) (hc : ∀ v, w ≠ .cop .ptb v) (s : State) :
    (s.apply w).dtlb = s.dtlb := by
  cases w with
  | flushDtlb va => exact absurd rfl (h va)
  | cop c v => exact State.writeCop_dtlb_other s v fun e => hc v (e ▸ rfl)
  | _ => simp [State.apply]

theorem apply_il1old {w : Write} (hd : ∀ pa, w ≠ .flushData pa) (hi : ∀ pa, w ≠ .flushInst pa) (s : State) :
    (s.apply w).il1old = s.il1old := by
  cases w with
  | flushData pa => exact absurd rfl (hd pa)
  | flushInst pa => exact absurd rfl (hi pa)
  | _ => simp [State.apply]

/-- What no packet changes: PhysMap and IrqSource (log 6, log 7). -/
def State.inputs (s : State) : PhysMap × List (List Irq) × IrqTail := (s.physMap, s.irqs, s.irqsThen)

@[simp] theorem apply_inputs (w : Write) (s : State) : (s.apply w).inputs = s.inputs := by
  cases w <;> simp [State.apply, State.inputs]

end Sys2Proof.Machine
end

section
/-! The invariant, the pc and the link bit (10_state.md R23, R25, R29): what a commit and a trap keep, then O21, O10, O24. -/
namespace Sys2Proof.Machine

/-! ### Memory -/

/-- What the invariant says of memory: canonical, and in RAM only (20_memory.md R73, R74). -/
def State.memInv (s : State) : Prop := Memory.wf s.mem = true ∧ s.memInRam = true

/-- The invariant, in its parts. -/
theorem inv_iff (s : State) : s.inv = true ↔ atPacket s.pc ∧ s.memInv := by
  simp [State.inv, atPacket, State.memInv, and_assoc]

/-- What the invariant says of memory depends on memory and PhysMap only. -/
theorem memInv_congr {s t : State} (hm : t.mem = s.mem) (hp : t.physMap = s.physMap) (h : s.memInv) : t.memInv := by
  have hram : ∀ a, t.isRam a = s.isRam a := fun a => by simp only [State.isRam, State.physKind, hp]
  simpa only [State.memInv, State.memInRam, hm, hram] using h

/-- Every write keeps memory canonical and in RAM. -/
theorem memInv_apply (w : Write) {s : State} (h : s.memInv) : (s.apply w).memInv := by
  cases w with
  | store pa n v => exact ⟨wf_storeBytes n s pa v h.1, memInRam_storeBytes n s pa v h.2⟩
  | pred n b => exact memInv_congr (State.setPredReg_mem s n b) (State.setPredReg_physMap s n b) h
  | cop c v => exact memInv_congr (State.writeCop_mem s c v) (State.writeCop_physMap s c v) h
  | _ => exact memInv_congr rfl rfl h

theorem memInv_applyAll (ws : List Write) {s : State} (h : s.memInv) : (s.applyAll ws).memInv :=
  applyAll_preserves State.memInv (fun w _ _ => memInv_apply w) h

/-! ## Commit -/

/-- What no queued write changes is after a commit what it was, but for the data TLB, the pc and the tick. -/
theorem commit_keeps {α : Type} (f : State → α) {outs : List LaneOut} {s : State}
    (hf : ∀ l v n, f { s with dtlb := l, pc := v, tick := n } = f s)
    (h : ∀ w ∈ outs.flatMap LaneOut.queue, ∀ u : State, f (u.apply w) = f u) : f (commit outs s) = f s :=
  (applyAll_keeps f h _).trans (hf _ _ _)

theorem memInv_commit (outs : List LaneOut) {s : State} (h : s.memInv) : (commit outs s).memInv :=
  memInv_applyAll _ (memInv_congr rfl rfl h)

theorem inputs_commit (outs : List LaneOut) (s : State) : (commit outs s).inputs = s.inputs :=
  commit_keeps State.inputs (fun _ _ _ => rfl) fun w _ u => apply_inputs w u

/-- The pc advances unless a lane queues another (10_state.md R25). -/
theorem commit_pc {outs : List LaneOut} {s : State} (h : ∀ v, .pc v ∉ outs.flatMap LaneOut.queue) :
    (commit outs s).pc = s.pc + 16#32 :=
  applyAll_keeps State.pc (fun _ hw u => apply_pc (fun v e => h v (e ▸ hw)) u) _

/-- A commit leaves the pc at a packet address if it was at one and every queued pc is one. -/
theorem atPacket_commit {outs : List LaneOut} {s : State} (hs : atPacket s.pc)
    (h : ∀ v, .pc v ∈ outs.flatMap LaneOut.queue → atPacket v) : atPacket (commit outs s).pc := by
  refine applyAll_preserves (fun u => atPacket u.pc) (fun w hw u hu => ?_) (atPacket_add hs rfl)
  by_cases hpc : ∃ v, w = .pc v
  · obtain ⟨v, rfl⟩ := hpc
    exact h v hw
  · rw [apply_pc fun v e => hpc ⟨v, e⟩]
    exact hu

/-- The link bit is 1 after a commit only if it was, or a lane queues it. -/
theorem commit_link {outs : List LaneOut} {s : State} (hs : s.link = false)
    (h : .link true ∉ outs.flatMap LaneOut.queue) : (commit outs s).link = false := by
  refine applyAll_preserves (fun u => u.link = false) (fun w hw u hu => ?_) hs
  by_cases hl : ∃ b, w = .link b
  · obtain ⟨_ | _, rfl⟩ := hl
    · rfl
    · exact absurd hw h
  · rw [apply_link fun b e => hl ⟨b, e⟩, hu]

/-! ## The trap of a packet -/

/-- The stores that survive a trap are stores. -/
theorem isStore_of_mem_survivingStores {outs : List LaneOut} {s : State} {w : Write} (h : w ∈ survivingStores outs s) :
    w.isStore = true := by
  unfold survivingStores at h
  split at h
  · cases h
  · obtain ⟨_, _, _, _, hw, _⟩ := (mem_survivingStoresFrom _ _ _ _).mp h
    exact hw

/-- What no store changes is after the surviving stores of a trap what it was, but for the data TLB. -/
theorem survivingStores_keep {α : Type} (f : State → α) (hf : ∀ (u : State) m l, f { u with mem := m, l2old := l } = f u)
    (outs : List LaneOut) (s : State) :
    f ((s.fillData outs).applyAll (survivingStores outs s)) = f (s.fillData outs) := by
  refine applyAll_keeps f (fun w hw u => ?_) _
  have hst := isStore_of_mem_survivingStores hw
  cases w with
  | store pa n v => exact storeBytes_keeps f hf u pa n v
  | _ => cases hst

theorem inputs_trapPacket (outs : List LaneOut) (s : State) : (trapPacket outs s).inputs = s.inputs :=
  survivingStores_keep State.inputs (fun _ _ _ => rfl) outs s

/-- Trap entry leads to a packet address and leaves memory alone. -/
theorem inv_trapEntry (x0 x1 x2 x3 : Option Exc) (int : BitVec 2) {s : State} (h : s.memInv) :
    (trapEntry x0 x1 x2 x3 int s).inv = true :=
  (inv_iff _).mpr ⟨atPacket_and_mask _, h⟩

theorem inv_trapPacket (outs : List LaneOut) {s : State} (h : s.memInv) : (trapPacket outs s).inv = true :=
  inv_trapEntry _ _ _ _ _ (memInv_applyAll _ (memInv_congr rfl rfl h))

/-! ## A packet and a step keep the invariant -/

theorem inputs_runPacket {slots : List Slot} {s t : State} (h : runPacket slots s = .next t) : t.inputs = s.inputs := by
  obtain rfl | rfl := runPacket_next h
  · exact inputs_commit _ s
  · exact inputs_trapPacket _ s

theorem inv_runPacket {slots : List Slot} {s t : State} (hs : s.inv = true) (h : runPacket slots s = .next t) :
    t.inv = true := by
  obtain ⟨hpc, hmem⟩ := (inv_iff s).mp hs
  obtain rfl | rfl := runPacket_next h
  · refine (inv_iff _).mpr ⟨atPacket_commit hpc fun v hv => ?_, memInv_commit _ hmem⟩
    obtain ⟨i, -, -, hv⟩ := exists_executes_of_mem_queue hv
    exact hv hpc
  · exact inv_trapPacket _ hmem

/-- The invariant does not depend on the instruction TLB and the interrupt requests. -/
theorem inv_fetched (s : State) (fills : List TlbEntry) : (s.passBoundary.fillFetch fills).inv = s.inv := rfl

/-- A step keeps the invariant: an interrupt and a failed fetch make trap entry, and a packet keeps it. -/
theorem inv_step {s t : State} (hs : s.inv = true) (h : step s = .next t) : t.inv = true := by
  obtain ⟨-, hmem⟩ := (inv_iff s).mp hs
  obtain ⟨c, -, rfl⟩ | ⟨-, fills, -, rfl⟩ | ⟨-, fills, -, rfl⟩ | ⟨-, pa, fills, slots, -, -, hrun⟩ := step_cases h
  · exact inv_trapEntry _ _ _ _ _ hmem
  · exact inv_trapEntry _ _ _ _ _ hmem
  · exact inv_trapEntry _ _ _ _ _ hmem
  · exact inv_runPacket ((inv_fetched s fills).trans hs) hrun

/-- A step takes one packet boundary off IrqSource and changes nothing else of its inputs (log 6, log 7). -/
theorem inputs_step {s t : State} (h : step s = .next t) : t.inputs = s.passBoundary.inputs := by
  obtain ⟨c, -, rfl⟩ | ⟨-, fills, -, rfl⟩ | ⟨-, fills, -, rfl⟩ | ⟨-, pa, fills, slots, -, -, hrun⟩ := step_cases h
  · rfl
  · rfl
  · rfl
  · exact (inputs_runPacket hrun :)

/-- Settles O21: trap entry and commit both keep the invariant, and neither changes the machine's inputs. -/
theorem everyStepKeepsTheInvariant : Obligations.EveryStepKeepsTheInvariant := by
  intro s t hs h
  have hin := inputs_step h
  simp only [State.inputs, Prod.mk.injEq] at hin
  exact ⟨inv_step hs h, hin⟩

/-- Settles O10: nothing queues a pc but a branch or ERET that executes. -/
theorem pcAdvancesBySixteen : Obligations.PcAdvancesBySixteen := by
  intro slots s t h hr hno
  obtain rfl := runPacket_next_of_raisesNothing h hr
  rw [commit_pc, BitVec.toNat_add]
  · rfl
  · intro v hv
    obtain ⟨i, ⟨hi, hp⟩, hred, -⟩ := exists_executes_of_mem_queue hv
    rw [hno i hi hp] at hred
    cases hred

/-- An instruction that may set the link bit is an LL. -/
theorem eq_ll_of_setsLink {i : Instr} (h : Form.setsLink i.form = true) : ∃ p rd rs off, i = .ll p rd rs off := by
  cases i with
  | ll p rd rs off => exact ⟨p, rd, rs, off, rfl⟩
  | _ => cases h

/-- An instruction that may clear the link bit is an SC or ERET. -/
theorem eq_sc_or_eret_of_clearsLink {i : Instr} (h : Form.clearsLink i.form = true) :
    (∃ p rt rs off, i = .sc p rt rs off) ∨ ∃ p, i = .eret p := by
  cases i with
  | sc p rt rs off => exact .inl ⟨p, rt, rs, off, rfl⟩
  | eret p => exact .inr ⟨p, rfl⟩
  | _ => cases h

/-- Settles O24: trap entry clears the link bit, and of the writes a packet queues only an LL's sets it. -/
theorem onlyLoadLinkedSetsTheLinkBit : Obligations.OnlyLoadLinkedSetsTheLinkBit := by
  intro s t h hs ht
  obtain ⟨c, -, rfl⟩ | ⟨-, fills, -, rfl⟩ | ⟨-, fills, -, rfl⟩ | ⟨-, pa, fills, slots, hf, hslots, hrun⟩ := step_cases h
  · cases ht
  · cases ht
  · cases ht
  · have hl : (s.passBoundary.fillFetch fills).link = false := hs
    obtain rfl | rfl := runPacket_next hrun
    · have hq : .link true ∈ (lanesOut slots (s.passBoundary.fillFetch fills)).flatMap LaneOut.queue := by
        by_contra hq
        rw [commit_link hl hq] at ht
        cases ht
      obtain ⟨i, ⟨hi, hp⟩, hset⟩ := exists_executes_of_mem_queue hq
      obtain ⟨p, rd, rs, off, rfl⟩ := eq_ll_of_setsLink hset
      exact ⟨pa, fills, slots, p, rd, rs, off, hf, hslots, hi, hp⟩
    · cases ht

end Sys2Proof.Machine
end

section
/-! The frame of a packet, interrupts, reset and unassigned coprocessor numbers: O8, O17, O19, O20, O59. -/
namespace Sys2Proof.Machine

/-! ## What a packet leaves alone -/

/-- An instruction that executes is given by its family form. -/
theorem executes_of_form {slots : List Slot} {s : State} {i : Instr} {f : Form} (hi : executes slots s i)
    (hf : i.form = f) : executes slots s f.instr := by
  rw [← hf, instr_form]
  exact hi

/-- What no write of an executing instruction changes is after the commit of a packet what it was, but for the data TLB, the
pc and the tick. -/
theorem packet_keeps {α : Type} (f : State → α) {slots : List Slot} {s : State}
    (hf : ∀ l v n, f { s with dtlb := l, pc := v, tick := n } = f s)
    (h : ∀ i w, executes slots s i → Form.mayQueue s i.form w → ∀ u : State, f (u.apply w) = f u) :
    f (commit (lanesOut slots s) s) = f s :=
  commit_keeps f hf fun w hw =>
    let ⟨i, hi, hq⟩ := exists_executes_of_mem_queue hw
    h i w hi hq

/-- A general register that no instruction names keeps its value (10_state.md R22). -/
theorem runPacket_reg {slots : List Slot} {s t : State} {r : Reg} (h : runPacket slots s = .next t)
    (hno : ∀ i, .instr i ∈ slots → i.gprDest ≠ some r) : t.reg r = s.reg r := by
  obtain rfl | rfl := runPacket_next h
  · refine packet_keeps (·.reg r) (fun _ _ _ => rfl) fun i w hi hq u => apply_reg (fun v e => ?_) u
    subst e
    exact hno i hi.1 hq
  · exact survivingStores_keep (·.reg r) (fun _ _ _ => rfl) _ s

/-- A predicate register that no instruction names keeps its value (10_state.md R26). -/
theorem runPacket_predReg {slots : List Slot} {s t : State} {n : PredReg} (h : runPacket slots s = .next t)
    (hno : ∀ i, .instr i ∈ slots → i.predDest ≠ some n) : t.predReg n = s.predReg n := by
  obtain rfl | rfl := runPacket_next h
  · refine packet_keeps (·.predReg n) (fun _ _ _ => rfl) fun i w hi hq u => apply_predReg (fun b e => ?_) u
    subst e
    exact hno i hi.1 hq
  · exact survivingStores_keep (·.predReg n) (fun _ _ _ => rfl) _ s

/-- Only MULT, MULTS, DIV and MTHI change ovf (10_state.md R28). -/
theorem runPacket_ovf {slots : List Slot} {s t : State} (h : runPacket slots s = .next t)
    (hno : ∀ i, .instr i ∈ slots → Form.writesOvf i.form = false) : t.ovf = s.ovf := by
  obtain rfl | rfl := runPacket_next h
  · refine packet_keeps State.ovf (fun _ _ _ => rfl) fun i w hi hq u => apply_ovf (fun v e => ?_) u
    subst e
    exact absurd hq (by simp [Form.mayQueue, hno i hi.1])
  · exact survivingStores_keep State.ovf (fun _ _ _ => rfl) _ s

section
variable {slots : List Slot} {s : State}

/-- Only an MTC that names it changes a coprocessor register, and ERET changes PFLAGS (10_state.md R31, R35). -/
theorem packet_readCop {c : Cop} (hmtc : ∀ p n rs, copOfNum n = some c → ¬ executes slots s (.mtc p n rs))
    (heret : c = .pflags → ∀ p, ¬ executes slots s (.eret p)) :
    (commit (lanesOut slots s) s).readCop c = s.readCop c := by
  refine packet_keeps (·.readCop c) (fun _ _ _ => rfl) fun i w hi hq u =>
    apply_readCop (fun v e => ?_) (fun hc b e => ?_) u
  · subst e
    obtain ⟨n, rs, p, hn, hf⟩ := hq
    exact hmtc p n rs hn (executes_of_form hi hf)
  · subst e
    obtain ⟨p, hf⟩ := hq
    exact heret hc p (executes_of_form hi hf)

/-- Only ERET changes the mode without a trap (10_state.md R30). -/
theorem packet_mode (heret : ∀ p, ¬ executes slots s (.eret p)) : (commit (lanesOut slots s) s).mode = s.mode := by
  refine packet_keeps State.mode (fun _ _ _ => rfl) fun i w hi hq u => apply_mode (fun m e => ?_) u
  subst e
  obtain ⟨p, hf⟩ := hq
  exact heret p (executes_of_form hi hf)

/-- Only LL, SC and ERET change the link bit without a trap (10_state.md R29). -/
theorem packet_link (heret : ∀ p, ¬ executes slots s (.eret p))
    (hlink : ∀ p r rs off, ¬ executes slots s (.ll p r rs off) ∧ ¬ executes slots s (.sc p r rs off)) :
    (commit (lanesOut slots s) s).link = s.link := by
  refine packet_keeps State.link (fun _ _ _ => rfl) fun i w hi hq u => apply_link (fun b e => ?_) u
  subst e
  cases b with
  | true =>
    obtain ⟨p, rd, rs, off, rfl⟩ := eq_ll_of_setsLink hq
    exact (hlink p rd rs off).1 hi
  | false =>
    obtain ⟨p, rt, rs, off, rfl⟩ | ⟨p, rfl⟩ := eq_sc_or_eret_of_clearsLink hq
    · exact (hlink p rt rs off).2 hi
    · exact heret p hi

/-- Only a FLUSH ITLB and an MTC to PTB change the instruction TLB (20_memory.md R91, R92). -/
theorem packet_itlb (hmtc : ∀ p n rs, copOfNum n = some .ptb → ¬ executes slots s (.mtc p n rs))
    (hflush : ∀ p rs, ¬ executes slots s (.flush p .itlb rs)) : (commit (lanesOut slots s) s).itlb = s.itlb := by
  refine packet_keeps State.itlb (fun _ _ _ => rfl) fun i w hi hq u => apply_itlb (fun va e => ?_) (fun v e => ?_) u
  · subst e
    obtain ⟨rs, p, hf⟩ := hq
    exact hflush p rs (executes_of_form hi hf)
  · subst e
    obtain ⟨n, rs, p, hn, hf⟩ := hq
    exact hmtc p n rs hn (executes_of_form hi hf)

/-- What a TLB holds after it has taken up some entries (20_memory.md R88). -/
theorem mem_fillTlb {l es : List TlbEntry} {e : TlbEntry} : e ∈ fillTlb l es ↔ e ∈ l ∨ e ∈ es := by
  unfold fillTlb
  induction es generalizing l with
  | nil => simp
  | cons x es ih =>
    rw [List.foldl_cons, ih]
    split
    · rename_i hx
      have hx : x ∈ l := List.contains_iff_mem.mp hx
      grind
    · grind

/-- Only a FLUSH DTLB and an MTC to PTB change the data TLB, but for what the lanes' translations give it
(20_memory.md R88, R91, R92). -/
theorem packet_dtlb (hmtc : ∀ p n rs, copOfNum n = some .ptb → ¬ executes slots s (.mtc p n rs))
    (hflush : ∀ p rs, ¬ executes slots s (.flush p .dtlb rs)) (e : TlbEntry) :
    e ∈ (commit (lanesOut slots s) s).dtlb ↔ e ∈ s.dtlb ∨ translates slots s e := by
  have hfill : (commit (lanesOut slots s) s).dtlb = fillTlb s.dtlb ((lanesOut slots s).flatMap LaneOut.fills) := by
    refine applyAll_keeps State.dtlb (fun w hw u => ?_) _
    obtain ⟨i, hi, hq⟩ := exists_executes_of_mem_queue hw
    refine apply_dtlb (fun va e => ?_) (fun v e => ?_) u
    · subst e
      obtain ⟨rs, p, hf⟩ := hq
      exact hflush p rs (executes_of_form hi hf)
    · subst e
      obtain ⟨n, rs, p, hn, hf⟩ := hq
      exact hmtc p n rs hn (executes_of_form hi hf)
  rw [hfill, mem_fillTlb, mem_fills_iff_translates]

/-- Only FLUSH DATA and FLUSH INST change what the instruction cache may still hold (log 16). -/
theorem packet_il1old (hdata : ∀ p rs, ¬ executes slots s (.flush p .data rs))
    (hinst : ∀ p rs, ¬ executes slots s (.flush p .inst rs)) : (commit (lanesOut slots s) s).il1old = s.il1old := by
  refine packet_keeps State.il1old (fun _ _ _ => rfl) fun i w hi hq u => apply_il1old (fun pa e => ?_) (fun pa e => ?_) u
  · subst e
    obtain ⟨rs, p, hf⟩ := hq
    exact hdata p rs (executes_of_form hi hf)
  · subst e
    obtain ⟨rs, p, hf⟩ := hq
    exact hinst p rs (executes_of_form hi hf)

end

/-- Settles O8: a commit changes what the writes of executing instructions change, and a trap no register. -/
theorem packetWritesOnlyNamedDestinations : Obligations.PacketWritesOnlyNamedDestinations := by
  intro slots s t h
  refine ⟨fun r => runPacket_reg h, fun n => runPacket_predReg h, runPacket_ovf h, rfl, fun hr => ?_⟩
  have hin := inputs_runPacket h
  simp only [State.inputs, Prod.mk.injEq] at hin
  obtain rfl := runPacket_next_of_raisesNothing h hr
  exact ⟨fun c => packet_readCop, packet_mode, packet_link, packet_itlb, packet_dtlb, packet_il1old, hin⟩

/-! ## Interrupts -/

@[simp] theorem exnType_errorCode (tick lane : Nat) (x : Option Exc) (int : BitVec 2) :
    exnType (errorCode tick lane x int) = excBits x := by
  simp (disch := omega) only [exnType, errorCode, extract_append_high, extract_append_low]
  simp

@[simp] theorem intField_errorCode (tick lane : Nat) (x : Option Exc) (int : BitVec 2) :
    intField (errorCode tick lane x int) = int := by
  simp (disch := omega) only [intField, errorCode, extract_append_high, extract_append_low]
  simp

/-- Of a set that is not empty the lowest code is taken (60_exceptions.md R333). -/
theorem lowestIrq_spec {pending : List Irq} (h : pending ≠ []) :
    ∃ c, lowestIrq pending = some c ∧ c ∈ pending ∧ ∀ d ∈ pending, c.bits.toNat ≤ d.bits.toNat := by
  by_cases h0 : .timer ∈ pending
  · exact ⟨.timer, by simp [lowestIrq, h0], h0, fun d _ => Nat.zero_le _⟩
  by_cases h1 : .usb ∈ pending
  · refine ⟨.usb, by simp [lowestIrq, h0, h1], h1, fun d hd => ?_⟩
    cases d with
    | timer => exact absurd hd h0
    | _ => decide
  by_cases h2 : .framebuffer ∈ pending
  · refine ⟨.framebuffer, by simp [lowestIrq, h0, h1, h2], h2, fun d hd => ?_⟩
    cases d with
    | timer => exact absurd hd h0
    | usb => exact absurd hd h1
    | _ => decide
  have honly : ∀ d ∈ pending, d = .sdCard := fun d hd => by cases d <;> trivial
  obtain ⟨d, hd⟩ := List.exists_mem_of_ne_nil pending h
  have h3 : .sdCard ∈ pending := honly d hd ▸ hd
  exact ⟨.sdCard, by simp [lowestIrq, h0, h1, h2, h3], h3, fun d hd => honly d hd ▸ Nat.le_refl _⟩

/-- An empty set has no code to take. -/
@[simp] theorem lowestIrq_nil : lowestIrq [] = none := rfl

theorem mem_irqsOfBits (b : BitVec 4) (c : Irq) : c ∈ irqsOfBits b ↔ b.getLsbD c.bits.toNat = true := by
  have hall : c ∈ [Irq.timer, .usb, .framebuffer, .sdCard] := by cases c <;> decide
  rw [irqsOfBits, List.mem_filter, and_iff_right hall]

/-- A step that takes an interrupt has made trap entry (60_exceptions.md R340). -/
theorem trapped_takeInterrupt (c : Irq) (s : State) : trapped s (takeInterrupt c s.passBoundary) :=
  ⟨rfl, rfl, rfl, rfl, rfl, rfl, rfl, rfl, rfl, rfl, rfl, rfl, rfl, rfl, rfl, rfl, rfl⟩

/-- Settles O17: the step of each case by its definition, the code taken by lowestIrq_spec. -/
theorem interruptIsTakenIfEnabledAndPending : Obligations.InterruptIsTakenIfEnabledAndPending := by
  intro s
  refine ⟨fun hie hp => ?_, fun hno => ?_, fun pending later h => ?_, fun h hthen => ?_, fun h hthen c => ?_⟩
  · obtain ⟨c, hc, hmem, hlow⟩ := lowestIrq_spec hp
    have hstep : step s = .next (takeInterrupt c s.passBoundary) := by simp [step, State.takenIrq, hie, hc]
    refine ⟨c, _, hmem, hlow, hstep, trapped_takeInterrupt c s, ?_⟩
    simp [takeInterrupt, sameOutsideFetch, excBits, ExcCode.bits, newEa]
  · have hnone : s.takenIrq = none := by
      obtain h | h := hno <;> simp [State.takenIrq, h]
    simp only [step, hnone]
  · simp only [State.pendingIrqs, h]
  · simp only [State.pendingIrqs, h, hthen]
  · simp only [State.pendingIrqs, h, hthen, mem_irqsOfBits]

/-! ## Reset and unassigned coprocessor numbers -/

/-- The default PhysMap: 512 MB of RAM from address 0 (20_memory.md R73). -/
theorem physKind_reset (a : Nat) : State.reset.physKind a = if a < 2 ^ 29 then some .ram else none := by
  have hcov : (⟨0, 0x20000000, .ram⟩ : PhysRegion).covers a = decide (a < 2 ^ 29) := by simp [PhysRegion.covers]
  simp [State.physKind, State.reset, PhysMap.default, hcov]

/-- Settles O19, field by field. -/
theorem resetState : Obligations.ResetState :=
  ⟨rfl, rfl, rfl, rfl, rfl, rfl, rfl, rfl, rfl, rfl, rfl, rfl, physKind_reset⟩

/-- Settles O20: the pc is 0 and memory is empty. -/
theorem resetMeetsTheInvariant : Obligations.ResetMeetsTheInvariant :=
  (inv_iff _).mpr ⟨rfl, reset_memory_wf, rfl⟩

/-- Numbers 10 to 15 and from 20 on name no coprocessor register (10_state.md R47). -/
theorem copOfNum_eq_none {n : CopNum} (h : (10 ≤ n.val ∧ n.val ≤ 15) ∨ 20 ≤ n.val) : copOfNum n = none := by
  unfold copOfNum
  split
  case h_15 => rfl
  all_goals omega

/-- An instruction that executes alone in kernel mode and whose lane refuses is refused. -/
theorem exec_refused {i : Instr} {s : State} {r : Refusal} (hp : s.holds i.pred = true) (hm : s.mode = .kernel)
    (h : laneOf i 0 s = .refused r) : exec i s = .refused r := by
  rw [exec_eq_runAlone, runAlone_of_holds _ _ _ _ hp fun _ => hm, h, finish_refused]

/-- Settles O59: the lane of MFC and of MTC refuses, and so does the packet that holds it alone. -/
theorem unassignedCoprocessorNumberIsRefused : Obligations.UnassignedCoprocessorNumberIsRefused := by
  intro s p r n hm hp hn
  have hnone := copOfNum_eq_none hn
  exact ⟨exec_refused hp hm (by simp [laneOf, laneMfc, hnone]), exec_refused hp hm (by simp [laneOf, laneMtc, hnone])⟩

end Sys2Proof.Machine
end

section
/-! The page-table walk and translation (20_memory.md R80 to R93): what the views of memory show, what a walk finds, which
translation an access uses; then O25, O26. -/
namespace Sys2Proof.Machine

/-! ## What the views of memory show -/

/-- `pick` answers one of the values it is given. -/
theorem pick_eq_or_mem {α : Type} [DecidableEq α] (n : Nat) (c : α) (cs : List α) : pick n c cs = c ∨ pick n c cs ∈ cs := by
  unfold pick
  split
  · exact .inl rfl
  · have hlt : n % (cs.length + 1) < (c :: cs).length := Nat.mod_lt _ (Nat.succ_pos _)
    rw [← List.mem_cons, List.getD_eq_getElem _ _ hlt]
    exact List.getElem_mem hlt

@[simp] theorem mem_oldAt {l : List OldByte} {a : Nat} {x : Option Byte} : x ∈ oldAt l a ↔ (a, x) ∈ l := by
  simp [oldAt]

/-- A byte of RAM in the L2 view is memory's or an older one (20_memory.md R96, R98). -/
theorem l2Byte_cases {s : State} {a : Nat} (h : s.isRam a = true) (id : Nat) :
    s.l2Byte id a = Memory.read s.mem a ∨ (a, s.l2Byte id a) ∈ s.l2old := by
  rw [← dataByte_of_ram s id a h, ← mem_oldAt]
  exact pick_eq_or_mem _ _ _

/-- A byte of RAM in the instruction view is memory's or an older one of the L2 view or the instruction cache
(20_memory.md R97, R98). -/
theorem fetchByte_cases {s : State} {a : Nat} (h : s.isRam a = true) :
    s.fetchByte a = Memory.read s.mem a ∨ (a, s.fetchByte a) ∈ s.l2old ∨ (a, s.fetchByte a) ∈ s.il1old := by
  rw [← dataByte_of_ram s 0 a h, ← mem_oldAt, ← mem_oldAt, ← List.mem_append]
  exact pick_eq_or_mem _ _ _

/-- A fetch of a byte of RAM of which no level holds an older one sees memory. -/
theorem fetchByte_eq_read {s : State} {a : Nat} (h : s.isRam a = true) (hl2 : ∀ x, (a, x) ∉ s.l2old)
    (hil1 : ∀ x, (a, x) ∉ s.il1old) : s.fetchByte a = Memory.read s.mem a := by
  obtain hr | hr | hr := fetchByte_cases h
  · exact hr
  · exact absurd hr (hl2 _)
  · exact absurd hr (hil1 _)

/-- The bytes of a word and the word they make (20_memory.md R61). -/
theorem append_bytes_eq_iff (b0 b1 b2 b3 : Byte) (w : Word) :
    b3 ++ b2 ++ b1 ++ b0 = w ↔
      b0 = w.extractLsb' 0 8 ∧ b1 = w.extractLsb' 8 8 ∧ b2 = w.extractLsb' 16 8 ∧ b3 = w.extractLsb' 24 8 := by
  constructor
  · rintro rfl
    simp (disch := omega) only [extract_append_high, extract_append_low]
    simp
  · rintro ⟨rfl, rfl, rfl, rfl⟩
    ext i hi
    simp only [BitVec.getElem_append, BitVec.getElem_extractLsb']
    grind

/-- A view's word is its four bytes, little-endian (20_memory.md R60, R61). -/
theorem leWord_eq_some_iff (read : Nat → Option Byte) (a : Nat) (w : Word) :
    leWord (read a) (read (a + 1)) (read (a + 2)) (read (a + 3)) = some w ↔
      ∀ k, k < 4 → read (a + k) = some (w.extractLsb' (8 * k) 8) := by
  have hall : (∀ k, k < 4 → read (a + k) = some (w.extractLsb' (8 * k) 8)) ↔
      read a = some (w.extractLsb' 0 8) ∧ read (a + 1) = some (w.extractLsb' 8 8) ∧
        read (a + 2) = some (w.extractLsb' 16 8) ∧ read (a + 3) = some (w.extractLsb' 24 8) :=
    ⟨fun h => ⟨h 0 (by decide), h 1 (by decide), h 2 (by decide), h 3 (by decide)⟩, fun ⟨h0, h1, h2, h3⟩ k hk =>
      match k, hk with
      | 0, _ => h0
      | 1, _ => h1
      | 2, _ => h2
      | 3, _ => h3⟩
  rw [hall]
  unfold leWord
  split
  · rename_i h0 h1 h2 h3
    simp only [h0, h1, h2, h3, Option.some.injEq, append_bytes_eq_iff]
  · rename_i hno
    simp only [reduceCtorEq, false_iff]
    rintro ⟨h0, h1, h2, h3⟩
    exact hno _ _ _ _ h0 h1 h2 h3

/-! ## The walk -/

/-- A walk whose directory entry does not exist finds no page (decision D38). -/
theorem walk_of_no_directory {s : State} {port : Nat} {va : Word}
    (hpd : s.physValid (tableEntryAddr s.ptb (va.extractLsb' 22 10)) = false) : s.walk port va = .notPresent := by
  simp [State.walk, hpd]

/-- A walk that reads an unwritten byte of the directory has no answer (log 25). -/
theorem walk_of_unwritten_directory {s : State} {port : Nat} {va : Word} {pd : Nat}
    (hpd : tableEntryAddr s.ptb (va.extractLsb' 22 10) = pd) (hv : s.physValid pd = true)
    (hw : s.l2Word (3 * port + 1) pd = none) : s.walk port va = .unwritten pd := by
  simp [State.walk, hpd, hv, hw]

section
variable {s : State} {port pd pt : Nat} {va d : Word} (hpd : tableEntryAddr s.ptb (va.extractLsb' 22 10) = pd)
  (hv : s.physValid pd = true) (hd : s.l2Word (3 * port + 1) pd = some d)
include hpd hv hd

/-- A walk whose directory entry has P = 0 finds no page, whatever stands where its table would be (decision D38). -/
theorem walk_of_absent_directory (hp : d.getLsbD 0 = false) : s.walk port va = .notPresent := by
  simp only [State.walk, hpd, hv, hd, hp, if_true, Bool.false_eq_true, if_false]

variable (hp : d.getLsbD 0 = true) (hpt : tableEntryAddr d (va.extractLsb' 12 10) = pt)
include hp hpt

/-- A walk whose table entry does not exist finds no page (decision D38). -/
theorem walk_of_no_table (hx : s.physValid pt = false) : s.walk port va = .notPresent := by
  simp only [State.walk, hpd, hv, hd, hp, hpt, hx, if_true, Bool.false_eq_true, if_false]

/-- A walk that reads an unwritten byte of the table has no answer (log 25). -/
theorem walk_of_unwritten_table (hx : s.physValid pt = true) (hw : s.l2Word (3 * port + 2) pt = none) :
    s.walk port va = .unwritten pt := by
  simp only [State.walk, hpd, hv, hd, hp, hpt, hx, hw, if_true]

/-- A walk that reads both levels finds the page they make, if the table entry has P = 1 (20_memory.md R84, R85). -/
theorem walk_of_table (hx : s.physValid pt = true) {t : Word} (hw : s.l2Word (3 * port + 2) pt = some t) :
    s.walk port va =
      if t.getLsbD 0 then
        .entry { vpn := va.extractLsb' 12 20, ppn := t.extractLsb' 12 17, g := d.getLsbD 3 || t.getLsbD 3,
                 k := d.getLsbD 2 || t.getLsbD 2, w := d.getLsbD 1 && t.getLsbD 1 }
      else .notPresent := by
  simp only [State.walk, hpd, hv, hd, hp, hpt, hx, hw, if_true]

end

/-- Settles O25, by the levels of the walk and the bytes of the L2 view. -/
theorem walkCombinesTheTwoLevels : Obligations.WalkCombinesTheTwoLevels := by
  intro s
  constructor
  · exact fun port va => ⟨walk_of_no_directory, walk_of_unwritten_directory rfl, fun d hv hd =>
      ⟨walk_of_absent_directory rfl hv hd, fun hp => walk_of_no_table rfl hv hd hp rfl,
        fun hp => walk_of_unwritten_table rfl hv hd hp rfl, fun t hp hx hw => walk_of_table rfl hv hd hp rfl hx hw⟩⟩
  · exact fun id a => ⟨leWord_eq_some_iff (s.l2Byte id) a, fun h => l2Byte_cases h id⟩

/-! ## Translation with paging on -/

/-- The translation an access uses is an entry the TLB may hold for the page, or what a walk finds (20_memory.md R88;
log 17). -/
theorem lookup_cases (s : State) (port : Nat) (kind : AccessKind) (va : Word) :
    (∃ e, e ∈ s.tlb kind ∧ e.vpn = va.extractLsb' 12 20 ∧ s.lookup port kind va = .entry e) ∨
      s.lookup port kind va = s.walk port va := by
  unfold State.lookup
  split
  · exact .inr rfl
  · rename_i e es hes
    have hmem : ∀ x ∈ e :: es, x ∈ s.tlb kind ∧ x.vpn = va.extractLsb' 12 20 := fun x hx => by
      rwa [← hes, List.mem_filter, beq_iff_eq] at hx
    obtain hp | hp := pick_eq_or_mem (Config.tlbChoice s.tick port) (.entry e) (es.map .entry ++ [s.walk port va])
    · obtain ⟨htlb, hvpn⟩ := hmem e List.mem_cons_self
      exact .inl ⟨e, htlb, hvpn, hp⟩
    · obtain hp | hp := List.mem_append.mp hp
      · obtain ⟨x, hx, hp⟩ := List.mem_map.mp hp
        obtain ⟨htlb, hvpn⟩ := hmem x (List.mem_cons_of_mem _ hx)
        exact .inl ⟨x, htlb, hvpn, hp.symm⟩
      · exact .inr (List.mem_singleton.mp hp)

/-- What the TLB does not hold is walked for. -/
theorem lookup_eq_walk {s : State} {port : Nat} {kind : AccessKind} {va : Word}
    (h : ∀ e, e ∈ s.tlb kind → e.vpn ≠ va.extractLsb' 12 20) : s.lookup port kind va = s.walk port va := by
  obtain ⟨e, htlb, hvpn, -⟩ | h := lookup_cases s port kind va
  · exact absurd hvpn (h e htlb)
  · exact h

/-- An answer that is no entry comes from the walk. -/
theorem walk_of_lookup {s : State} {port : Nat} {kind : AccessKind} {va : Word} {r : WalkResult}
    (h : s.lookup port kind va = r) (hr : ∀ e, r ≠ .entry e) : s.walk port va = r := by
  obtain ⟨e, -, -, hl⟩ | hl := lookup_cases s port kind va
  · exact absurd (h.symm.trans hl) (hr e)
  · exact hl.symm.trans h

/-- A page does not admit an access exactly if it is kernel-only in user mode or not writeable for a write
(20_memory.md R86). -/
theorem pagePermits_eq_false_iff (e : TlbEntry) (kind : AccessKind) (mode : Mode) :
    pagePermits e kind mode = false ↔ (e.k = true ∧ mode = .user) ∨ (kind = .write ∧ e.w = false) := by
  simp only [pagePermits, Bool.and_eq_false_iff, Bool.not_eq_false', Bool.and_eq_true, beq_iff_eq, Bool.not_eq_true']

/-- The physical address under an entry: the page's number and the page offset (20_memory.md R80). -/
theorem physAddr_toNat (ppn : BitVec 17) (va : Word) :
    (ppn ++ va.extractLsb' 0 12 : BitVec 29).toNat = ppn.toNat * 4096 + va.toNat % 4096 := by
  have hlt : (va.extractLsb' 0 12).toNat < 2 ^ 12 := (va.extractLsb' 0 12).isLt
  rw [BitVec.toNat_append, ← Nat.shiftLeft_add_eq_or_of_lt hlt, Nat.shiftLeft_eq]
  simp [BitVec.extractLsb'_toNat]

/-- Translation by an entry: the page check, then the physical address, which must exist (20_memory.md R74, R80, R86). -/
theorem translate_of_entry {s : State} {port : Nat} {kind : AccessKind} {va : Word} {e : TlbEntry} (hpe : s.pe = true)
    (h : s.lookup port kind va = .entry e) :
    s.translate port kind va =
      if (e.k = true ∧ s.mode = .user) ∨ (kind = .write ∧ e.w = false) then .pageFault [e]
      else if s.physValid (e.ppn.toNat * 4096 + va.toNat % 4096) then .ok (e.ppn.toNat * 4096 + va.toNat % 4096) [e]
      else .invalidPhysical [e] := by
  simp only [State.translate, hpe, h, if_true, physAddr_toNat, ← pagePermits_eq_false_iff]
  cases pagePermits e kind s.mode <;> rfl

/-! ## What stands at an address -/

/-- The first range that covers an address says what stands there (00_scope.md R7). -/
theorem physKind_of_first {s : State} {a : Nat} {before after : PhysMap} {g : PhysRegion}
    (hmap : s.physMap = before ++ g :: after) (hbefore : ∀ h ∈ before, ¬ (h.first ≤ a ∧ a < h.first + h.size))
    (hlo : g.first ≤ a) (hhi : a < g.first + g.size) : s.physKind a = some g.kind := by
  have hno : before.find? (·.covers a) = none := by
    simpa [PhysRegion.covers] using hbefore
  have hg : g.covers a = true := by simp [PhysRegion.covers, hlo, hhi]
  simp [State.physKind, hmap, hno, hg]

/-- Settles O26: with paging on by the answer of the lookup, with paging off by definition. -/
theorem pagePermissionsGuardAccesses : Obligations.PagePermissionsGuardAccesses := by
  refine ⟨fun s port kind va hpe => ⟨lookup_eq_walk, fun h => ?_, fun a h => ?_, fun e h => ⟨?_, translate_of_entry hpe h⟩⟩,
    fun s port kind va hpe => ?_, fun s a => ⟨physValid_iff s a, fun before after g hmap hbefore hlo hhi => ?_⟩,
    fun held taken e => mem_fillTlb⟩
  · exact ⟨walk_of_lookup h nofun, by simp [State.translate, hpe, h]⟩
  · exact ⟨walk_of_lookup h nofun, by simp [State.translate, hpe, h]⟩
  · obtain ⟨x, htlb, hvpn, hx⟩ | hw := lookup_cases s port kind va
    · cases h.symm.trans hx
      exact .inl ⟨htlb, hvpn⟩
    · exact .inr (hw.symm.trans h)
  · simp [State.translate, hpe]
  · have hkind := physKind_of_first hmap hbefore hlo hhi
    exact ⟨hkind, by simp [State.isRam, hkind]⟩

end Sys2Proof.Machine
end

section
/-! FLUSH and writes of PTB (20_memory.md R91, R92, R97 to R103): O27, O53, O58. -/
namespace Sys2Proof.Machine

/-! ## An instruction alone in its packet that queues writes -/

/-- An instruction that executes alone and whose lane queues writes: they are carried out after what the data TLB takes up
and the advance of the pc. -/
theorem exec_done {i : Instr} {s : State} {ws : List Write} {acc : Option Access} {fills : List TlbEntry}
    (hp : s.holds i.pred = true) (hm : i.kernelOnly = true → s.mode = .kernel) (h : laneOf i 0 s = .done ws acc fills) :
    exec i s = .next ((s.withFills fills).advance.applyAll ws) := by
  rw [exec_eq_runAlone, runAlone_of_holds _ _ _ _ hp hm, h, finish_done]
  rfl

/-! ## FLUSH DATA and FLUSH INST -/

/-- FLUSH DATA or FLUSH INST of an address that translates flushes the line of its physical address (20_memory.md R99,
R101). -/
theorem flushLineLane_of_ok {mk : Nat → Write} {rs : Reg} {k pa : Nat} {s : State} {fills : List TlbEntry}
    (h : s.translate (k + 1) .read (s.reg rs) = .ok pa fills) : flushLineLane mk rs k s = .done [mk pa] none fills := by
  simp only [flushLineLane, h]

/-- FLUSH DATA of an address that translates. -/
theorem exec_flush_data {s : State} {p : Pred} {rs : Reg} {pa : Nat} {fills : List TlbEntry} (hp : s.holds p = true)
    (h : s.translate 1 .read (s.reg rs) = .ok pa fills) :
    exec (.flush p .data rs) s = .next ((s.withFills fills).advance.flushData pa) :=
  exec_done (i := .flush p .data rs) hp nofun (flushLineLane_of_ok h)

/-- FLUSH INST of an address that translates. -/
theorem exec_flush_inst {s : State} {p : Pred} {rs : Reg} {pa : Nat} {fills : List TlbEntry} (hp : s.holds p = true)
    (h : s.translate 1 .read (s.reg rs) = .ok pa fills) :
    exec (.flush p .inst rs) s = .next ((s.withFills fills).advance.flushInst pa) :=
  exec_done (i := .flush p .inst rs) hp nofun (flushLineLane_of_ok h)

/-- What stands at an address depends on PhysMap only (20_memory.md R74). -/
theorem isRam_congr {s t : State} (h : t.physMap = s.physMap) (a : Nat) : t.isRam a = s.isRam a := by
  simp only [State.isRam, State.physKind, h]

/-- After FLUSH DATA the L2 view holds no older byte of the line (20_memory.md R99). -/
theorem not_mem_l2old_flushData {s : State} {pa a : Nat} (h : sameLine a pa = true) (x : Option Byte) :
    (a, x) ∉ (s.flushData pa).l2old := by
  simp [h]

/-- After FLUSH INST the instruction cache holds no older byte of the line (20_memory.md R101). -/
theorem not_mem_il1old_flushInst {s : State} {pa a : Nat} (h : sameLine a pa = true) (x : Option Byte) :
    (a, x) ∉ (s.flushInst pa).il1old := by
  simp [h]

/-- FLUSH INST of a line of which the L2 view holds no older byte makes fetches of it see memory (20_memory.md R101). -/
theorem fetchByte_flushInst {s : State} {pa a : Nat} (h : sameLine a pa = true) (hram : s.isRam a = true)
    (hl2 : ∀ x, (a, x) ∉ s.l2old) : (s.flushInst pa).fetchByte a = Memory.read s.mem a := by
  have hram' : (s.flushInst pa).isRam a = true := (isRam_congr (State.flushInst_physMap s pa) a).trans hram
  exact fetchByte_eq_read hram' hl2 (not_mem_il1old_flushInst h)

/-- Settles O27: the line's older bytes leave the L2 view by FLUSH DATA and the instruction cache by FLUSH INST. -/
theorem flushDataThenInstMakesFetchCoherent : Obligations.FlushDataThenInstMakesFetchCoherent := by
  refine ⟨fun s t p rs pa f1 f2 hp h1 ht h2 => ?_, fun s a => ⟨leWord_eq_some_iff s.fetchByte a, fetchByte_cases⟩⟩
  rw [exec_flush_data hp h1] at ht
  injection ht with ht
  have hmem : t.mem = s.mem := ht ▸ rfl
  have hmap : t.physMap = s.physMap := ht ▸ rfl
  have hpred : t.holds p = true := ht ▸ hp
  refine ⟨_, exec_flush_inst hpred h2, hmem, fun a hline hram => ?_⟩
  have hl2 : ∀ x, (a, x) ∉ t.l2old := fun x => ht ▸ not_mem_l2old_flushData hline x
  have hram' : (t.withFills f2).advance.isRam a = true := (isRam_congr hmap a).trans hram
  exact (fetchByte_flushInst hline hram' hl2).trans (congrArg (Memory.read · a) hmem)

/-! ## What the TLBs drop -/

/-- The entries of other pages stay (20_memory.md R92). -/
theorem mem_dropPage {l : List TlbEntry} {va : Word} {e : TlbEntry} :
    e ∈ dropPage l va ↔ e ∈ l ∧ e.vpn ≠ va.extractLsb' 12 20 := by
  simp [dropPage]

/-- The global entries stay (20_memory.md R91). -/
theorem mem_dropNonGlobal {l : List TlbEntry} {e : TlbEntry} : e ∈ dropNonGlobal l ↔ e ∈ l ∧ e.g = true := by
  simp [dropNonGlobal]

/-- Settles O53: either FLUSH queues the drop of one page, in one TLB. -/
theorem flushTlbResults : Obligations.FlushTlbResults := by
  intro s p rs hp
  exact ⟨⟨_, exec_done (i := .flush p .dtlb rs) hp nofun rfl, rfl, fun _ => mem_dropPage⟩,
    ⟨_, exec_done (i := .flush p .itlb rs) hp nofun rfl, rfl, fun _ => mem_dropPage⟩⟩

/-- Settles O58: the write to PTB drops from both TLBs what is not global. -/
theorem pageTableBaseWriteDropsNonGlobalEntries : Obligations.PageTableBaseWriteDropsNonGlobalEntries := by
  intro s p rs hm hp
  exact ⟨_, exec_done (i := .mtc p 1 rs) hp (fun _ => hm) rfl, rfl, fun _ => mem_dropNonGlobal, fun _ => mem_dropNonGlobal⟩

end Sys2Proof.Machine
end

section
/-! Overlapping accesses of one packet (20_memory.md R68): what each lane accesses, which lanes can stop a packet; then O15. -/
namespace Sys2Proof.Machine

/-! ## What a lane accesses -/

/-- An access of one byte is aligned (20_memory.md R64). -/
theorem alignDown_one (addr : Word) : alignDown addr 1 = addr := BitVec.and_allOnes

/-- An access of two bytes drops bit 0. -/
theorem alignDown_two (addr : Word) : alignDown addr 2 = addr &&& 0xFFFFFFFE#32 := rfl

/-- An access of four bytes drops bits 1 and 0. -/
theorem alignDown_four (addr : Word) : alignDown addr 4 = addr &&& 0xFFFFFFFC#32 := rfl

/-- A load has a value if every byte it reads is written (20_memory.md R61). -/
theorem exists_readLE {read : Nat → Option Byte} (n : Nat) {a : Nat} (h : ∀ q, a ≤ q → q < a + n → read q ≠ none) :
    ∃ v, readLE read a n = some v := by
  induction n generalizing a with
  | zero => exact ⟨_, rfl⟩
  | succ n ih =>
    obtain ⟨v, hv⟩ := ih (a := a + 1) fun q hlo hhi => h q (by omega) (by omega)
    obtain ⟨b, hb⟩ := Option.ne_none_iff_exists'.mp (h a (by omega) (by omega))
    exact ⟨(v <<< 8) ||| b.setWidth 32, by simp only [readLE, hb, hv]⟩

/-- A load whose bytes are written accesses the bytes of its width at the physical address of its aligned address. -/
theorem access_loadLane {n k pa : Nat} {ws : List Write} {rd rs : Reg} {off : BitVec 12} {s : State}
    {ea : Word} {fills : List TlbEntry} (hea : alignDown (dataAddr s rs off) n = ea)
    (h : s.translate (k + 1) .read ea = .ok pa fills)
    (hb : ∀ q, pa ≤ q → q < pa + n → s.dataByte (3 * (k + 1)) q ≠ none) :
    (loadLane n ws rd rs off k s).access = some ⟨pa, n, false⟩ := by
  obtain ⟨v, hv⟩ := exists_readLE n hb
  simp only [loadLane, accessLane, hea, h, hv, LaneOut.access]

/-- A store accesses the bytes of its width at the physical address of its aligned address. -/
theorem access_storeLane {n k pa : Nat} {ws : List Write} {rt rs : Reg} {off : BitVec 12} {s : State}
    {ea : Word} {fills : List TlbEntry} (hea : alignDown (dataAddr s rs off) n = ea)
    (h : s.translate (k + 1) .write ea = .ok pa fills) :
    (storeLane n ws rt rs off k s).access = some ⟨pa, n, true⟩ := by
  simp only [storeLane, accessLane, hea, h, LaneOut.access]

/-- An SC accesses its word with the link bit, and nothing without it (43_load_store.md R248). -/
theorem access_laneSc {k pa : Nat} {rt rs : Reg} {off : BitVec 12} {s : State} {ea : Word} {fills : List TlbEntry}
    (hea : alignDown (dataAddr s rs off) 4 = ea) (h : s.translate (k + 1) .write ea = .ok pa fills) :
    (laneSc rt rs off k s).access = if s.link then some ⟨pa, 4, true⟩ else none := by
  unfold laneSc
  split
  · exact access_storeLane hea h
  · rfl

/-! ## The slots that access or stop -/

/-- An ALU instruction queues one write and does nothing else. -/
theorem lane_of_alu {f : Form} (h : f.cls = .alu) (k : Nat) (s : State) : ∃ w, Form.lane k s f = LaneOut.writes [w] := by
  cases f with
  | alu2 o p rd rs b => exact ⟨_, rfl⟩
  | alu1 o p rd b => exact ⟨_, rfl⟩
  | cmp o p pd rs b => exact ⟨_, rfl⟩
  | _ => cases h

/-- Only ALU instructions may stand in slots 2 and 3 (40_packet_and_operands.md R162). -/
theorem cls_of_allowedIn {i : Instr} {k : Nat} (h : i.allowedIn k = true) (hk : 2 ≤ k) : i.cls = .alu := by
  unfold Instr.allowedIn at h
  split at h
  · exact absurd (beq_iff_eq.mp h) (by omega)
  · exact absurd (of_decide_eq_true h) (by omega)
  · assumption

/-- A slot from 2 on yields nothing, an exception without an address, or one write: it accesses no memory and has a
successor state. -/
theorem runSlot_of_two_le (ls : List (Nat × Instr)) (s : State) {k : Nat} (x : Slot) (hk : 2 ≤ k) :
    runSlot ls s k x = .idle ∨ (∃ c, runSlot ls s k x = .raise c) ∨ ∃ w, runSlot ls s k x = .writes [w] := by
  cases x with
  | operand => exact .inl rfl
  | undefined => exact .inr (.inl ⟨_, rfl⟩)
  | instr i =>
    simp only [runSlot]
    split
    · rename_i hi
      obtain ⟨w, hw⟩ := lane_of_alu (cls_of_allowedIn hi hk) k s
      obtain h | h | ⟨-, h⟩ := guardLane_cases i.pred i.kernelOnly (duplicateDest ls s i) (laneOf i k) s
      · exact .inl h
      · exact .inr (.inl h)
      · exact .inr (.inr ⟨w, by rw [h, laneOf_eq_lane, hw]⟩)
    · exact .inr (.inl ⟨_, rfl⟩)

/-- The lane has a successor state. -/
def LaneOut.continues (o : LaneOut) : Prop := firstStop [o] = none

theorem firstStop_eq_none_iff (outs : List LaneOut) : firstStop outs = none ↔ ∀ o ∈ outs, o.continues := by
  induction outs with
  | nil => simp [firstStop]
  | cons o outs ih => cases o <;> simp [firstStop, LaneOut.continues, ih]

/-- A lane that accesses memory has a successor state. -/
theorem continues_of_access {o : LaneOut} {a : Access} (h : o.access = some a) : o.continues := by
  cases o with
  | done => rfl
  | _ => cases h

theorem continues_runSlot {ls : List (Nat × Instr)} {s : State} {k : Nat} {x : Slot} (hk : 2 ≤ k) :
    (runSlot ls s k x).continues := by
  obtain h | ⟨c, h⟩ | ⟨w, h⟩ := runSlot_of_two_le ls s x hk <;> rw [h] <;> rfl

/-- Only slots 0 and 1 access memory (40_packet_and_operands.md R162). -/
theorem lt_two_of_access {ls : List (Nat × Instr)} {s : State} {k : Nat} {x : Slot} {a : Access}
    (h : (runSlot ls s k x).access = some a) : k < 2 := by
  by_contra hk
  obtain hr | ⟨c, hr⟩ | ⟨w, hr⟩ := runSlot_of_two_le ls s x (Nat.le_of_not_lt hk) <;> rw [hr] at h <;> cases h

/-! ## Conflicts -/

theorem Access.conflicts_comm (a b : Access) : a.conflicts b = b.conflicts a := by
  simp only [Access.conflicts, Bool.or_comm, Bool.and_assoc, Bool.and_comm (decide (a.pa < b.pa + b.len))]

/-- Two accesses with a byte in common, one of them a store, conflict. -/
theorem Access.conflicts_of_overlap {a b : Access} (hstore : a.store = true ∨ b.store = true)
    (h : ∃ q, a.pa ≤ q ∧ q < a.pa + a.len ∧ b.pa ≤ q ∧ q < b.pa + b.len) : a.conflicts b = true := by
  obtain ⟨q, halo, hahi, hblo, hbhi⟩ := h
  have hab : a.pa < b.pa + b.len := by omega
  have hba : b.pa < a.pa + a.len := by omega
  simp [Access.conflicts, hab, hba, hstore]

theorem anyConflict_eq_false_iff (as : List Access) :
    anyConflict as = false ↔ as.Pairwise fun a b => a.conflicts b = false := by
  induction as with
  | nil => simp [anyConflict]
  | cons a as ih => simp [anyConflict, ih]

/-- Slot `k` of a packet yields what `runSlot` says. -/
theorem getElem?_runSlots {ls : List (Nat × Instr)} {s : State} (slots : List Slot) (k j : Nat) :
    (runSlots ls s k slots)[j]? = slots[j]?.map (runSlot ls s (k + j)) := by
  induction slots generalizing k j with
  | nil => rfl
  | cons x xs ih =>
    cases j with
    | zero => rfl
    | succ j =>
      rw [runSlots, List.getElem?_cons_succ, List.getElem?_cons_succ, ih, Nat.add_right_comm, Nat.add_assoc]

/-- A packet conflicts if the accesses of two of its lanes do. -/
theorem anyConflict_of_lanes {outs : List LaneOut} {j k : Nat} {x y : LaneOut} {a b : Access} (hjk : j ≠ k)
    (hx : outs[j]? = some x) (hy : outs[k]? = some y) (ha : x.access = some a) (hb : y.access = some b)
    (hc : a.conflicts b = true) : anyConflict (outs.filterMap LaneOut.access) = true := by
  wlog hlt : j < k generalizing j k x y a b
  · exact this hjk.symm hy hx hb ha (Access.conflicts_comm a b ▸ hc) (by omega)
  by_contra hno
  rw [Bool.not_eq_true, anyConflict_eq_false_iff, List.pairwise_filterMap, List.pairwise_iff_getElem] at hno
  obtain ⟨hj, rfl⟩ := List.getElem?_eq_some_iff.mp hx
  obtain ⟨hk, rfl⟩ := List.getElem?_eq_some_iff.mp hy
  rw [hno j k hj hk hlt a ha b hb] at hc
  cases hc

/-- Where two lanes of a packet access memory, every lane has a successor state: those two stand in slots 0 and 1, and the
other slots never stop. -/
theorem firstStop_of_two_accesses {slots : List Slot} {s : State} {j k : Nat} {x y : Slot} {a b : Access} (hjk : j ≠ k)
    (hx : slots[j]? = some x) (hy : slots[k]? = some y) (ha : (runSlot (lanesFrom 0 slots) s j x).access = some a)
    (hb : (runSlot (lanesFrom 0 slots) s k y).access = some b) : firstStop (lanesOut slots s) = none := by
  rw [firstStop_eq_none_iff]
  intro o ho
  obtain ⟨m, z, hz, rfl⟩ := mem_lanesOut.mp ho
  have hj := lt_two_of_access ha
  have hk := lt_two_of_access hb
  obtain hm | rfl | rfl : 2 ≤ m ∨ m = j ∨ m = k := by omega
  · exact continues_runSlot hm
  · cases hx.symm.trans hz
    exact continues_of_access ha
  · cases hy.symm.trans hz
    exact continues_of_access hb

/-- Settles O15: the packet ends at the conflict, since no lane of it stops; and what each memory instruction accesses. -/
theorem overlappingAccessesAreRefused : Obligations.OverlappingAccessesAreRefused := by
  constructor
  · intro slots s j k x y a b _ hdest hjk hx hy ha hb hstore hq
    have hstop : firstStop (runSlots (lanesFrom 0 slots) s 0 slots) = none :=
      firstStop_of_two_accesses hjk hx hy ha hb
    have hconf : anyConflict ((runSlots (lanesFrom 0 slots) s 0 slots).filterMap LaneOut.access) = true :=
      anyConflict_of_lanes hjk (by rw [getElem?_runSlots, hx, Nat.zero_add]; rfl)
        (by rw [getElem?_runSlots, hy, Nat.zero_add]; rfl) ha hb (Access.conflicts_of_overlap hstore hq)
    simp only [runPacket, hdest, finish, hstop, hconf, if_true]
  · intro s k p r rs off pa fills
    have h1 := alignDown_one (dataAddr s rs off)
    have h2 := alignDown_two (dataAddr s rs off)
    have h4 := alignDown_four (dataAddr s rs off)
    exact ⟨access_loadLane h1, access_loadLane h2, fun h hb => ⟨access_loadLane h4 h hb, access_loadLane h4 h hb⟩,
      access_storeLane h1, access_storeLane h2, fun h => ⟨access_storeLane h4 h, access_laneSc h4 h⟩⟩

end Sys2Proof.Machine
end

section
/-! The decoder, one equation for each format, opcode and refusal (30_encoding.md R112 to R143); then O3. -/
namespace Sys2Proof

/-! ## Slices of a word -/

/-- A slice of a known slice of a word. -/
theorem field_of_field {w : Word} {lo n : Nat} {v : BitVec n} (h : field w lo n = v) (k m : Nat)
    (hk : k + m ≤ n := by decide) : field w (lo + k) m = v.extractLsb' k m := by
  subst h
  ext i hi
  have : k + i < n := by omega
  simp [field, this, Nat.add_assoc]

/-- A word differs from `u` on a slice as soon as it does on a part of the slice. -/
theorem field_ne_of_field {w : Word} {lo n k m : Nat} {v : BitVec m} {u : BitVec n} (h : field w (lo + k) m = v)
    (hk : k + m ≤ n) (hne : u.extractLsb' k m ≠ v) : field w lo n ≠ u :=
  fun hu => hne ((field_of_field hu k m hk).symm.trans h)

theorem field_all (w : Word) : field w 0 32 = w := BitVec.extractLsb'_eq_self

/-- A slice is a join exactly if its two parts are the parts of the join: what takes a word of known layout apart into its
fields. -/
theorem field_append_iff {w : Word} {lo n m : Nat} {x : BitVec n} {y : BitVec m} :
    field w lo (n + m) = x ++ y ↔ field w (lo + m) n = x ∧ field w lo m = y := by
  constructor
  · intro h
    exact ⟨(field_of_field h m n (by omega)).trans BitVec.extractLsb'_append_eq_left,
      (field_of_field h 0 m (by omega)).trans BitVec.extractLsb'_append_eq_right⟩
  · rintro ⟨rfl, rfl⟩
    exact (BitVec.extractLsb'_append_extractLsb'_eq_extractLsb' rfl).symm

/-! ## The formats (30_encoding.md R112) -/

section Formats
variable {w next : Word}

theorem decodeForm_short (h : field w 28 1 = 0#1) : decodeForm w next =
    decodeAlu w (.short (field w 18 10) (field w 14 4)) (.short (field w 0 5 ++ field w 18 10) (field w 14 4)) :=
  if_pos h

theorem decodeForm_register (h : field w 26 3 = 0b101#3) : decodeForm w next =
    decodeAlu w (.reg (regAt w 14) (shiftTypeOf (field w 19 2)) (field w 21 5))
      (.reg (regAt w 14) (shiftTypeOf (field w 19 2)) (field w 21 5)) := by
  have h28 : field w 28 1 = 1#1 := field_of_field h 2 1
  simp [decodeForm, h28, h]

theorem decodeForm_lsu (h : field w 25 4 = 0b1001#4) : decodeForm w next = .ok (decodeLsu w) := by
  have h28 : field w 28 1 = 1#1 := field_of_field h 3 1
  have h26 : field w 26 3 = 0b100#3 := field_of_field h 1 3
  simp [decodeForm, h28, h26, h]

theorem decodeForm_branch (h : field w 27 2 = 0b11#2) : decodeForm w next = .ok (decodeBranch w) := by
  have h28 : field w 28 1 = 1#1 := field_of_field h 1 1
  have h26 : field w 26 3 ≠ 0b101#3 := field_ne_of_field (k := 1) h (by decide) (by decide)
  have h25 : field w 25 4 ≠ 0b1001#4 := field_ne_of_field (k := 2) h (by decide) (by decide)
  simp [decodeForm, h28, h26, h25, h]

theorem decodeForm_control (h : field w 24 5 = 0b10001#5) :
    decodeForm w next = (decodeControl w).map fun c => .ctl c (predOf w) := by
  have h28 : field w 28 1 = 1#1 := field_of_field h 4 1
  have h27 : field w 27 2 = 0b10#2 := field_of_field h 3 2
  have h26 : field w 26 3 = 0b100#3 := field_of_field h 2 3
  have h25 : field w 25 4 = 0b1000#4 := field_of_field h 1 4
  simp [decodeForm, h28, h27, h26, h25, h]

/-- The words that are in none of the five formats above are in Regsh, in Long, or in no format. -/
theorem decodeForm_of_10000 (h : field w 24 5 = 0b10000#5) : decodeForm w next =
    if field w 21 8 = 0b10000001#8 then decodeRegsh w
    else if field w 14 15 = 0b100000000000000#15 then decodeAlu w (.long next) (.long next)
    else .error .noFormat := by
  have h28 : field w 28 1 = 1#1 := field_of_field h 4 1
  have h27 : field w 27 2 = 0b10#2 := field_of_field h 3 2
  have h26 : field w 26 3 = 0b100#3 := field_of_field h 2 3
  have h25 : field w 25 4 = 0b1000#4 := field_of_field h 1 4
  simp [decodeForm, h28, h27, h26, h25, h]

theorem decodeForm_regsh (h : field w 21 8 = 0b10000001#8) : decodeForm w next = decodeRegsh w := by
  rw [decodeForm_of_10000 (field_of_field h 3 5), if_pos h]

theorem decodeForm_long (h : field w 14 15 = 0b100000000000000#15) :
    decodeForm w next = decodeAlu w (.long next) (.long next) := by
  have h21 : field w 21 8 = 0b10000000#8 := field_of_field h 7 8
  rw [decodeForm_of_10000 (field_of_field h 10 5), if_neg (by rw [h21]; decide), if_pos h]

theorem decodeForm_noFormat (h : field w 24 5 = 0b10000#5) (hregsh : field w 21 8 ≠ 0b10000001#8)
    (hlong : field w 14 15 ≠ 0b100000000000000#15) : decodeForm w next = .error .noFormat := by
  rw [decodeForm_of_10000 h, if_neg hregsh, if_neg hlong]

theorem decodeWord_of_form {f : Form} (h : decodeForm w next = .ok f) : decodeWord w next = .ok f.instr := by
  rw [decodeWord, h]; rfl

theorem decodeWord_of_reject {e : Reject} (h : decodeForm w next = .error e) : decodeWord w next = .error e := by
  rw [decodeWord, h]; rfl

end Formats

/-! ## The codes read back (30_encoding.md R130 to R133, R136) -/

@[simp] theorem shiftTypeOf_bits (ty : ShiftType) : shiftTypeOf ty.bits = ty := by cases ty <;> rfl
@[simp] theorem flushTypeOf_bits (ty : FlushType) : flushTypeOf ty.bits = ty := by cases ty <;> rfl
@[simp] theorem aluOpcodeOf_alu2 (o : Alu2Op) : aluOpcodeOf o.bits = .two o := by cases o <;> rfl
@[simp] theorem aluOpcodeOf_alu1 (o : Alu1Op) : aluOpcodeOf o.bits = .one o := by cases o <;> rfl
@[simp] theorem cmpOf_bits (o : CmpOp) : cmpOf o.bits = some o := by cases o <;> rfl
@[simp] theorem lsuOf_load (o : LoadOp) : lsuOf o.bits = .load o := by cases o <;> rfl
@[simp] theorem lsuOf_store (o : StoreOp) : lsuOf o.bits = .store o := by cases o <;> rfl

theorem aluOpcodeOf_reserved {b : BitVec 4} (h : 12 ≤ b.toNat) : aluOpcodeOf b = .reserved := by
  revert b; decide

/-- The opcodes below 8 are the two-operand operations and the compares. -/
theorem aluOpcodeOf_below_eight {b : BitVec 4} (h : b.toNat < 8) :
    (∃ o, aluOpcodeOf b = .two o) ∨ aluOpcodeOf b = .compare := by
  have cover : ∀ c : BitVec 4, c.toNat < 8 → c = 7#4 ∨ ∃ o ∈ [Alu2Op.addOp, .andOp, .norOp, .orOp, .subOp, .rsbOp, .xorOp],
      c = o.bits := by decide
  obtain rfl | ⟨o, -, rfl⟩ := cover b h
  · exact .inr rfl
  · exact .inl ⟨o, aluOpcodeOf_alu2 o⟩

/-! ## ALU opcodes and compare types (30_encoding.md R131, R132, R141, R142) -/

section Alu
variable {w : Word} {b2 : Op2} {b1 : Op1}

theorem decodeAlu_alu2 {o : Alu2Op} (h : field w 10 4 = o.bits) :
    decodeAlu w b2 b1 = .ok (.alu2 o (predOf w) (regAt w 5) (regAt w 0) b2) := by
  simp [decodeAlu, h]

theorem decodeAlu_alu1 {o : Alu1Op} (h : field w 10 4 = o.bits) :
    decodeAlu w b2 b1 = .ok (.alu1 o (predOf w) (regAt w 5) b1) := by
  simp [decodeAlu, h]

theorem decodeAlu_cmp {o : CmpOp} (h : field w 10 4 = 7#4) (ho : field w 7 3 = o.bits) :
    decodeAlu w b2 b1 = .ok (.cmp o (predOf w) (field w 5 2).toFin (regAt w 0) b2) := by
  simp [decodeAlu, aluOpcodeOf, h, ho]

theorem decodeAlu_reserved (h : 12 ≤ (field w 10 4).toNat) : decodeAlu w b2 b1 = .error .reservedAluOpcode := by
  simp [decodeAlu, aluOpcodeOf_reserved h]

theorem decodeAlu_unassignedCompareType (h : field w 10 4 = 7#4) (ho : field w 7 3 = 3#3) :
    decodeAlu w b2 b1 = .error .unassignedCompareType := by
  simp [decodeAlu, aluOpcodeOf, cmpOf, h, ho]

theorem decodeRegsh_alu1 {o : Alu1Op} (h : field w 10 4 = o.bits) : decodeRegsh w =
    .ok (.alu1 o (predOf w) (regAt w 5) (.regsh (regAt w 14) (shiftTypeOf (field w 19 2)) (regAt w 0))) := by
  simp [decodeRegsh, h]

theorem decodeRegsh_reserved (h : 12 ≤ (field w 10 4).toNat) : decodeRegsh w = .error .reservedAluOpcode := by
  simp [decodeRegsh, aluOpcodeOf_reserved h]

theorem decodeRegsh_regshOpcode (h : (field w 10 4).toNat < 8) : decodeRegsh w = .error .regshOpcode := by
  obtain ⟨o, ho⟩ | ho := aluOpcodeOf_below_eight h <;> simp [decodeRegsh, ho]

end Alu

/-! ## Loads, stores and branches (30_encoding.md R118 to R121, R133) -/

section LsuBranch
variable {w : Word}

theorem decodeLsu_load {o : LoadOp} (h : field w 10 3 = o.bits) :
    decodeLsu w = .load o (predOf w) (regAt w 5) (regAt w 0) (field w 13 12) := by
  simp [decodeLsu, h]

theorem decodeLsu_store {o : StoreOp} (h : field w 10 3 = o.bits) : decodeLsu w =
    .store o (predOf w) (regAt w 14) (regAt w 0) (field w 19 6 ++ field w 13 1 ++ field w 5 5) := by
  simp [decodeLsu, h]

theorem decodeBranch_imm {link : Bool} (h : field w 26 1 = 0#1) (hl : field w 25 1 = bif link then 1#1 else 0#1) :
    decodeBranch w = .branch link (predOf w) (.imm (field w 0 25)) := by
  cases link <;> simp_all [decodeBranch]

theorem decodeBranch_reg {link : Bool} (h : field w 26 1 = 1#1) (hl : field w 25 1 = bif link then 1#1 else 0#1) :
    decodeBranch w = .branch link (predOf w) (.reg (regAt w 0) (field w 5 20)) := by
  cases link <;> simp_all [decodeBranch]

end LsuBranch

/-! ## Control codes (30_encoding.md R134, R135) -/

/-- MFHI and MTHI have two different codes, both among those no instruction is printed with (30_encoding.md R135). -/
theorem encMfhi_encMthi_open : (encMfhi.toNat = 0 ∨ 9 < encMfhi.toNat) ∧ (encMthi.toNat = 0 ∨ 9 < encMthi.toNat) ∧
    encMthi ≠ encMfhi := by
  have codes : ∀ (m : Fin 7) (n : Fin 6),
      let a := openControlCode m.val
      let b := openControlCode (if n.val < m.val then n.val else n.val + 1)
      (a.toNat = 0 ∨ 9 < a.toNat) ∧ (b.toNat = 0 ∨ 9 < b.toNat) ∧ b ≠ a := by decide
  exact codes Config.mfhiSelect Config.mthiSelect

section Control
variable {w : Word}

theorem decodeControl_brk (h : field w 20 4 = 1#4) : decodeControl w = .ok .brkOp := by simp [decodeControl, h]
theorem decodeControl_syscall (h : field w 20 4 = 2#4) : decodeControl w = .ok .syscallOp := by simp [decodeControl, h]
theorem decodeControl_fence (h : field w 20 4 = 3#4) : decodeControl w = .ok .fenceOp := by simp [decodeControl, h]
theorem decodeControl_eret (h : field w 20 4 = 4#4) : decodeControl w = .ok .eretOp := by simp [decodeControl, h]

theorem decodeControl_flush (h : field w 20 4 = 5#4) :
    decodeControl w = .ok (.flushOp (flushTypeOf (field w 10 2)) (regAt w 0)) := by simp [decodeControl, h]

theorem decodeControl_mfc (h : field w 20 4 = 6#4) : decodeControl w = .ok (.mfcOp (regAt w 5) (regAt w 0)) := by
  simp [decodeControl, h]

theorem decodeControl_mtc (h : field w 20 4 = 7#4) : decodeControl w = .ok (.mtcOp (regAt w 5) (regAt w 0)) := by
  simp [decodeControl, h]

theorem decodeControl_mult (h : field w 20 4 = 8#4) (h19 : field w 19 1 = 0#1) :
    decodeControl w = .ok (.multOp (regAt w 5) (regAt w 0) (regAt w 14)) := by simp [decodeControl, h, h19]

theorem decodeControl_mults (h : field w 20 4 = 8#4) (h19 : field w 19 1 = 1#1) :
    decodeControl w = .ok (.multsOp (regAt w 5) (regAt w 0) (regAt w 14)) := by simp [decodeControl, h, h19]

theorem decodeControl_div (h : field w 20 4 = 9#4) :
    decodeControl w = .ok (.divOp (regAt w 5) (regAt w 0) (regAt w 14)) := by simp [decodeControl, h]

/-- A code that no instruction is printed with is that of MFHI, that of MTHI, or none. -/
theorem decodeControl_open (h : (field w 20 4).toNat = 0 ∨ 9 < (field w 20 4).toNat) : decodeControl w =
    if field w 20 4 = encMfhi then .ok (.mfhiOp (regAt w 5))
    else if field w 20 4 = encMthi then .ok (.mthiOp (regAt w 0))
    else .error .unassignedControl := by
  unfold decodeControl
  split
  case h_10 => rfl
  all_goals omega

theorem decodeControl_mfhi (h : field w 20 4 = encMfhi) : decodeControl w = .ok (.mfhiOp (regAt w 5)) := by
  obtain ⟨hopen, -, -⟩ := encMfhi_encMthi_open
  rw [decodeControl_open (h ▸ hopen), if_pos h]

theorem decodeControl_mthi (h : field w 20 4 = encMthi) : decodeControl w = .ok (.mthiOp (regAt w 0)) := by
  obtain ⟨-, hopen, hne⟩ := encMfhi_encMthi_open
  rw [decodeControl_open (h ▸ hopen), if_neg (h ▸ hne), if_pos h]

theorem decodeControl_unassigned (h : (field w 20 4).toNat = 0 ∨ 9 < (field w 20 4).toNat)
    (hmfhi : field w 20 4 ≠ encMfhi) (hmthi : field w 20 4 ≠ encMthi) :
    decodeControl w = .error .unassignedControl := by
  rw [decodeControl_open h, if_neg hmfhi, if_neg hmthi]

end Control

/-! ## Undefined encodings -/

/-- In the Short, Register and Long formats the ALU part of the word decides. -/
theorem decodeWord_of_decodeAlu {w next : Word} {e : Reject}
    (hformat : field w 28 1 = 0#1 ∨ field w 26 3 = 0b101#3 ∨ field w 14 15 = 0b100000000000000#15)
    (h : ∀ b2 b1, decodeAlu w b2 b1 = .error e) : decodeWord w next = .error e := by
  apply decodeWord_of_reject
  obtain hs | hr | hl := hformat
  · rw [decodeForm_short hs, h]
  · rw [decodeForm_register hr, h]
  · rw [decodeForm_long hl, h]

/-- Settles O3: the refusal of each kind of opcode field, in each of the formats that have it. -/
theorem undefinedEncodingsAreRejected : Obligations.UndefinedEncodingsAreRejected := by
  intro w next short register regsh long
  refine ⟨?reserved, ?compareType, ?regshOpcode, ?control, ?noFormat⟩
  case reserved =>
    rintro (hs | hr | hsh | hl) hop
    · exact decodeWord_of_decodeAlu (.inl hs) fun _ _ => decodeAlu_reserved hop
    · exact decodeWord_of_decodeAlu (.inr (.inl hr)) fun _ _ => decodeAlu_reserved hop
    · exact decodeWord_of_reject ((decodeForm_regsh hsh).trans (decodeRegsh_reserved hop))
    · exact decodeWord_of_decodeAlu (.inr (.inr hl)) fun _ _ => decodeAlu_reserved hop
  case compareType =>
    exact fun hformat hop hty => decodeWord_of_decodeAlu hformat fun _ _ => decodeAlu_unassignedCompareType hop hty
  case regshOpcode =>
    exact fun hsh hop => decodeWord_of_reject ((decodeForm_regsh hsh).trans (decodeRegsh_regshOpcode hop))
  case control =>
    intro hc hopen hmfhi hmthi
    apply decodeWord_of_reject
    rw [decodeForm_control hc, decodeControl_unassigned hopen hmfhi hmthi]
    rfl
  case noFormat =>
    exact fun h hsh hl => decodeWord_of_reject (decodeForm_noFormat h hsh hl)

end Sys2Proof
end

section
/-! Decoding what the encoder writes (30_encoding.md R110, R138): O1, one lemma for each family of instructions. -/
namespace Sys2Proof

/-! ## The fields of an encoded word -/

theorem wordOfBytes_fields (w : Word) :
    wordOfBytes (field w 0 8) (field w 8 8) (field w 16 8) (field w 24 8) = w := by
  have h : field w 0 (8 + 8 + 8 + 8) = field w 24 8 ++ field w 16 8 ++ field w 8 8 ++ field w 0 8 := by
    simp only [field_append_iff, and_self]
  exact h.symm.trans (field_all w)

theorem regAt_of_bits {w : Word} {lo : Nat} {r : Reg} (h : field w lo 5 = regBits r) : regAt w lo = r := by
  rw [regAt, h]; rfl

theorem predOf_of_bits {w : Word} {p : Pred} (h : field w 29 3 = p.bits) : predOf w = p := by
  obtain ⟨r, inv⟩ := p
  obtain ⟨hreg, hinv⟩ := (field_append_iff (n := 2) (m := 1)).mp h
  rw [predOf, hreg, hinv]
  cases inv <;> rfl

/-! ## Bytes -/

theorem isLong_of_field {w : Word} (h : field w 14 15 = 0b100000000000000#15) : isLong w = true :=
  beq_iff_eq.mpr h

/-- A part of bits 28:14 that differs from a long form's tells that the word is in none. -/
theorem not_isLong_of_field {w : Word} {k n : Nat} {v : BitVec n} (h : field w (14 + k) n = v) (hk : k + n ≤ 15)
    (hne : (0b100000000000000#15).extractLsb' k n ≠ v) : isLong w = false :=
  beq_eq_false_iff_ne.mpr (field_ne_of_field h hk hne)

theorem decodeBytes_word {w : Word} (rest : List Byte) (h : isLong w = false) :
    decodeBytes (bytesOfWord w ++ rest) = (decodeWord w 0#32).map fun i => (i, rest) := by
  simp [bytesOfWord, decodeBytes, wordOfBytes_fields, h]

theorem decodeBytes_longWord {w : Word} (c : Word) (rest : List Byte) (h : isLong w = true) :
    decodeBytes (bytesOfWord w ++ (bytesOfWord c ++ rest)) = (decodeWord w c).map fun i => (i, rest) := by
  simp [bytesOfWord, decodeBytes, wordOfBytes_fields, h]

/-- The words are those of one instruction, which is `f`: one word that is in no long form, or a long form and its
constant. -/
def ReadsBack (f : Form) : List Word → Prop
  | [w] => isLong w = false ∧ decodeForm w 0#32 = .ok f
  | [w, c] => isLong w = true ∧ decodeForm w c = .ok f
  | _ => False

theorem decodeBytes_of_readsBack {f : Form} {ws : List Word} (rest : List Byte) (h : ReadsBack f ws) :
    decodeBytes (ws.flatMap bytesOfWord ++ rest) = .ok (f.instr, rest) := by
  match ws, h with
  | [w], ⟨hlong, hf⟩ =>
    rw [List.flatMap_singleton, decodeBytes_word rest hlong, decodeWord_of_form hf]
    rfl
  | [w, c], ⟨hlong, hf⟩ =>
    rw [List.flatMap_cons, List.flatMap_singleton, List.append_assoc, decodeBytes_longWord c rest hlong,
      decodeWord_of_form hf]
    rfl

/-- An instruction of one word, from what its fields say. -/
theorem readsBack_word {f : Form} {v : Word}
    (h : ∀ w, field w 0 32 = v → isLong w = false ∧ decodeForm w 0#32 = .ok f) : ReadsBack f [v] :=
  h v (field_all v)

/-- A long form and its constant, from what the fields of its first word say. -/
theorem readsBack_long {f : Form} {v c : Word}
    (h : ∀ w, field w 0 32 = v → isLong w = true ∧ decodeForm w c = .ok f) : ReadsBack f [v, c] :=
  h v (field_all v)

/-! ## ALU instructions and compares -/

/-- An instruction with a two-operand second operand is read back in every format, as soon as the bits its formats share,
PRED, 13:5 and 4:0, are. -/
theorem readsBack_op2 {f : Form} {p : Pred} {mid : BitVec 9} {rs : Reg} (b : Op2)
    (h : ∀ w b1, predOf w = p → field w 5 9 = mid → regAt w 0 = rs → decodeAlu w b b1 = .ok f) :
    ReadsBack f (b.words p mid rs) := by
  cases b with
  | short imm rot =>
    refine readsBack_word fun w hw => ?_
    change field w 0 (3 + 1 + 10 + 4 + 9 + 5) = _ at hw
    simp only [field_append_iff] at hw
    obtain ⟨⟨⟨⟨⟨hp, hformat⟩, himm⟩, hrot⟩, hmid⟩, hrs⟩ := hw
    refine ⟨not_isLong_of_field (k := 14) hformat (by decide) (by decide), (decodeForm_short hformat).trans ?_⟩
    rw [show field w 18 10 = imm from himm, show field w 14 4 = rot from hrot]
    exact h w _ (predOf_of_bits hp) hmid (regAt_of_bits hrs)
  | reg rt ty amt =>
    refine readsBack_word fun w hw => ?_
    change field w 0 (3 + 3 + 5 + 2 + 5 + 9 + 5) = _ at hw
    simp only [field_append_iff] at hw
    obtain ⟨⟨⟨⟨⟨⟨hp, hformat⟩, hamt⟩, hty⟩, hrt⟩, hmid⟩, hrs⟩ := hw
    refine ⟨not_isLong_of_field (k := 12) hformat (by decide) (by decide), (decodeForm_register hformat).trans ?_⟩
    rw [show regAt w 14 = rt from regAt_of_bits hrt, show field w 19 2 = ty.bits from hty, shiftTypeOf_bits,
      show field w 21 5 = amt from hamt]
    exact h w _ (predOf_of_bits hp) hmid (regAt_of_bits hrs)
  | long imm =>
    refine readsBack_long fun w hw => ?_
    change field w 0 (3 + 15 + 9 + 5) = _ at hw
    simp only [field_append_iff] at hw
    obtain ⟨⟨⟨hp, hformat⟩, hmid⟩, hrs⟩ := hw
    exact ⟨isLong_of_field hformat,
      (decodeForm_long hformat).trans (h w _ (predOf_of_bits hp) hmid (regAt_of_bits hrs))⟩

theorem readsBack_alu2 (o : Alu2Op) (p : Pred) (rd rs : Reg) (b : Op2) :
    ReadsBack (.alu2 o p rd rs b) (Form.words (.alu2 o p rd rs b)) := by
  refine readsBack_op2 b fun w b1 hp hmid hrs => ?_
  obtain ⟨hop, hrd⟩ := (field_append_iff (n := 4) (m := 5)).mp hmid
  rw [decodeAlu_alu2 hop, hp, regAt_of_bits hrd, hrs]

theorem readsBack_cmp (o : CmpOp) (p : Pred) (pd : PredReg) (rs : Reg) (b : Op2) :
    ReadsBack (.cmp o p pd rs b) (Form.words (.cmp o p pd rs b)) := by
  refine readsBack_op2 b fun w b1 hp hmid hrs => ?_
  change field w 5 (4 + 3 + 2) = _ at hmid
  simp only [field_append_iff] at hmid
  obtain ⟨⟨hop, hty⟩, hpd⟩ := hmid
  rw [decodeAlu_cmp hop hty, hp, hpd, hrs]
  rfl

theorem readsBack_alu1 (o : Alu1Op) (p : Pred) (rd : Reg) (b : Op1) :
    ReadsBack (.alu1 o p rd b) (Form.words (.alu1 o p rd b)) := by
  cases b with
  | short imm rot =>
    refine readsBack_word fun w hw => ?_
    change field w 0 (3 + 1 + 10 + 4 + (4 + 5) + 5) = _ at hw
    simp only [field_append_iff] at hw
    obtain ⟨⟨⟨⟨⟨hp, hformat⟩, hlow⟩, hrot⟩, hop, hrd⟩, hhigh⟩ := hw
    refine ⟨not_isLong_of_field (k := 14) hformat (by decide) (by decide), ?_⟩
    have himm : field w 0 5 ++ field w 18 10 = imm := by
      rw [hhigh, show field w 18 10 = _ from hlow,
        BitVec.extractLsb'_append_extractLsb'_eq_extractLsb' (show 10 = 0 + 10 from rfl)]
      exact BitVec.extractLsb'_eq_self
    rw [decodeForm_short hformat, decodeAlu_alu1 hop, predOf_of_bits hp, regAt_of_bits hrd, himm,
      show field w 14 4 = rot from hrot]
  | reg rt ty amt =>
    refine readsBack_word fun w hw => ?_
    change field w 0 (3 + 3 + 5 + 2 + 5 + (4 + 5) + 5) = _ at hw
    simp only [field_append_iff] at hw
    obtain ⟨⟨⟨⟨⟨⟨hp, hformat⟩, hamt⟩, hty⟩, hrt⟩, hop, hrd⟩, -⟩ := hw
    refine ⟨not_isLong_of_field (k := 12) hformat (by decide) (by decide), ?_⟩
    rw [decodeForm_register hformat, decodeAlu_alu1 hop, predOf_of_bits hp, regAt_of_bits hrd,
      show regAt w 14 = rt from regAt_of_bits hrt, show field w 19 2 = ty.bits from hty, shiftTypeOf_bits,
      show field w 21 5 = amt from hamt]
  | regsh rt ty rs =>
    refine readsBack_word fun w hw => ?_
    change field w 0 (3 + 8 + 2 + 5 + (4 + 5) + 5) = _ at hw
    simp only [field_append_iff] at hw
    obtain ⟨⟨⟨⟨⟨hp, hformat⟩, hty⟩, hrt⟩, hop, hrd⟩, hrs⟩ := hw
    refine ⟨not_isLong_of_field (k := 7) hformat (by decide) (by decide), ?_⟩
    rw [decodeForm_regsh hformat, decodeRegsh_alu1 hop, predOf_of_bits hp, regAt_of_bits hrd,
      show regAt w 14 = rt from regAt_of_bits hrt, show field w 19 2 = ty.bits from hty, shiftTypeOf_bits,
      regAt_of_bits hrs]
  | long imm =>
    refine readsBack_long fun w hw => ?_
    change field w 0 (3 + 15 + (4 + 5) + 5) = _ at hw
    simp only [field_append_iff] at hw
    obtain ⟨⟨⟨hp, hformat⟩, hop, hrd⟩, -⟩ := hw
    refine ⟨isLong_of_field hformat, ?_⟩
    rw [decodeForm_long hformat, decodeAlu_alu1 hop, predOf_of_bits hp, regAt_of_bits hrd]

/-! ## Loads, stores and branches -/

theorem readsBack_load (o : LoadOp) (p : Pred) (rd rs : Reg) (off : BitVec 12) :
    ReadsBack (.load o p rd rs off) (Form.words (.load o p rd rs off)) := by
  refine readsBack_word fun w hw => ?_
  change field w 0 (3 + 4 + 12 + 3 + 5 + 5) = _ at hw
  simp only [field_append_iff] at hw
  obtain ⟨⟨⟨⟨⟨hp, hformat⟩, hoff⟩, hop⟩, hrd⟩, hrs⟩ := hw
  refine ⟨not_isLong_of_field (k := 11) hformat (by decide) (by decide), ?_⟩
  rw [decodeForm_lsu hformat, decodeLsu_load hop, predOf_of_bits hp, regAt_of_bits hrd, regAt_of_bits hrs,
    show field w 13 12 = off from hoff]

theorem readsBack_store (o : StoreOp) (p : Pred) (rt rs : Reg) (off : BitVec 12) :
    ReadsBack (.store o p rt rs off) (Form.words (.store o p rt rs off)) := by
  refine readsBack_word fun w hw => ?_
  change field w 0 (3 + 4 + 6 + 5 + 1 + 3 + 5 + 5) = _ at hw
  simp only [field_append_iff] at hw
  obtain ⟨⟨⟨⟨⟨⟨⟨hp, hformat⟩, hhigh⟩, hrt⟩, hmid⟩, hop⟩, hlow⟩, hrs⟩ := hw
  refine ⟨not_isLong_of_field (k := 11) hformat (by decide) (by decide), ?_⟩
  have hoff : field w 19 6 ++ field w 13 1 ++ field w 5 5 = off := by
    rw [show field w 19 6 = _ from hhigh, show field w 13 1 = _ from hmid, show field w 5 5 = _ from hlow,
      BitVec.extractLsb'_append_extractLsb'_eq_extractLsb' (show 6 = 5 + 1 from rfl),
      BitVec.extractLsb'_append_extractLsb'_eq_extractLsb' (show 5 = 0 + 5 from rfl)]
    exact BitVec.extractLsb'_eq_self
  rw [decodeForm_lsu hformat, decodeLsu_store hop, predOf_of_bits hp, show regAt w 14 = rt from regAt_of_bits hrt,
    regAt_of_bits hrs, hoff]

theorem readsBack_branch (link : Bool) (p : Pred) (t : Target) :
    ReadsBack (.branch link p t) (Form.words (.branch link p t)) := by
  cases t with
  | imm off =>
    refine readsBack_word fun w hw => ?_
    change field w 0 (3 + 2 + 1 + 1 + 25) = _ at hw
    simp only [Target.word, field_append_iff] at hw
    obtain ⟨⟨⟨⟨hp, hformat⟩, hreg⟩, hlink⟩, hoff⟩ := hw
    refine ⟨not_isLong_of_field (k := 13) hformat (by decide) (by decide), ?_⟩
    rw [decodeForm_branch hformat, decodeBranch_imm hreg hlink, predOf_of_bits hp, hoff]
  | reg rs off =>
    refine readsBack_word fun w hw => ?_
    change field w 0 (3 + 2 + 1 + 1 + 20 + 5) = _ at hw
    simp only [Target.word, field_append_iff] at hw
    obtain ⟨⟨⟨⟨⟨hp, hformat⟩, hreg⟩, hlink⟩, hoff⟩, hrs⟩ := hw
    refine ⟨not_isLong_of_field (k := 13) hformat (by decide) (by decide), ?_⟩
    rw [decodeForm_branch hformat, decodeBranch_reg hreg hlink, predOf_of_bits hp, regAt_of_bits hrs,
      show field w 5 20 = off from hoff]

/-! ## Control instructions -/

/-- Bits 23:0 of a Control word with two five-bit fields at its end. -/
theorem control_two_fields {w : Word} {code : BitVec 4} {x : BitVec 10} {a b : BitVec 5}
    (h : field w 0 24 = code ++ x ++ a ++ b) : field w 20 4 = code ∧ field w 5 5 = a ∧ field w 0 5 = b := by
  change field w 0 (4 + 10 + 5 + 5) = _ at h
  simp only [field_append_iff] at h
  obtain ⟨⟨⟨hcode, -⟩, ha⟩, hb⟩ := h
  exact ⟨hcode, ha, hb⟩

/-- Bits 23:0 of a Control word with three registers: MULT, MULTS and DIV. -/
theorem control_three_regs {w : Word} {code : BitVec 4} {signed : BitVec 1} {x : BitVec 4} {rd rs rt : Reg}
    (h : field w 0 24 = code ++ signed ++ regBits rt ++ x ++ regBits rd ++ regBits rs) :
    field w 20 4 = code ∧ field w 19 1 = signed ∧ regAt w 5 = rd ∧ regAt w 0 = rs ∧ regAt w 14 = rt := by
  change field w 0 (4 + 1 + 5 + 4 + 5 + 5) = _ at h
  simp only [field_append_iff] at h
  obtain ⟨⟨⟨⟨⟨hcode, hsigned⟩, hrt⟩, -⟩, hrd⟩, hrs⟩ := h
  exact ⟨hcode, hsigned, regAt_of_bits hrd, regAt_of_bits hrs, regAt_of_bits hrt⟩

theorem decodeControl_bits {w : Word} (c : CtlOp) (h : field w 0 24 = c.bits) : decodeControl w = .ok c := by
  cases c with
  | brkOp => exact decodeControl_brk (field_of_field h 20 4)
  | syscallOp => exact decodeControl_syscall (field_of_field h 20 4)
  | fenceOp => exact decodeControl_fence (field_of_field h 20 4)
  | eretOp => exact decodeControl_eret (field_of_field h 20 4)
  | flushOp ty rs =>
    change field w 0 (4 + 8 + 2 + 5 + 5) = _ at h
    simp only [CtlOp.bits, field_append_iff] at h
    obtain ⟨⟨⟨⟨hcode, -⟩, hty⟩, -⟩, hrs⟩ := h
    rw [decodeControl_flush hcode, show field w 10 2 = ty.bits from hty, flushTypeOf_bits, regAt_of_bits hrs]
  | mfcOp rd n =>
    obtain ⟨hcode, hrd, hn⟩ := control_two_fields h
    rw [decodeControl_mfc hcode, regAt_of_bits hrd, regAt_of_bits hn]
  | mtcOp n rs =>
    obtain ⟨hcode, hn, hrs⟩ := control_two_fields h
    rw [decodeControl_mtc hcode, regAt_of_bits hn, regAt_of_bits hrs]
  | mfhiOp rd =>
    obtain ⟨hcode, hrd, -⟩ := control_two_fields h
    rw [decodeControl_mfhi hcode, regAt_of_bits hrd]
  | mthiOp rs =>
    change field w 0 (4 + 15 + 5) = _ at h
    simp only [CtlOp.bits, field_append_iff] at h
    obtain ⟨⟨hcode, -⟩, hrs⟩ := h
    rw [decodeControl_mthi hcode, regAt_of_bits hrs]
  | multOp rd rs rt =>
    obtain ⟨hcode, hsigned, hrd, hrs, hrt⟩ := control_three_regs h
    rw [decodeControl_mult hcode hsigned, hrd, hrs, hrt]
  | multsOp rd rs rt =>
    obtain ⟨hcode, hsigned, hrd, hrs, hrt⟩ := control_three_regs h
    rw [decodeControl_mults hcode hsigned, hrd, hrs, hrt]
  | divOp rd rs rt =>
    obtain ⟨hcode, -, hrd, hrs, hrt⟩ := control_three_regs h
    rw [decodeControl_div hcode, hrd, hrs, hrt]

theorem readsBack_ctl (c : CtlOp) (p : Pred) : ReadsBack (.ctl c p) (Form.words (.ctl c p)) := by
  refine readsBack_word fun w hw => ?_
  change field w 0 (3 + 5 + 24) = _ at hw
  simp only [field_append_iff] at hw
  obtain ⟨⟨hp, hformat⟩, hbits⟩ := hw
  refine ⟨not_isLong_of_field (k := 10) hformat (by decide) (by decide), ?_⟩
  rw [decodeForm_control hformat, decodeControl_bits c hbits, predOf_of_bits hp]
  rfl

/-! ## Every instruction -/

theorem readsBack_words : ∀ f : Form, ReadsBack f f.words
  | .alu2 o p rd rs b => readsBack_alu2 o p rd rs b
  | .alu1 o p rd b => readsBack_alu1 o p rd b
  | .cmp o p pd rs b => readsBack_cmp o p pd rs b
  | .load o p rd rs off => readsBack_load o p rd rs off
  | .store o p rt rs off => readsBack_store o p rt rs off
  | .branch link p t => readsBack_branch link p t
  | .ctl c p => readsBack_ctl c p

/-- Settles O1, from the words of its family form. -/
theorem decodeOfEncodeIsIdentity : Obligations.DecodeOfEncodeIsIdentity := by
  intro i rest
  rw [encode, decodeBytes_of_readsBack rest (readsBack_words i.form), Machine.instr_form]

end Sys2Proof
end

section
/-! The rows of the opcode table, told by mask and match (30_encoding.md R138, R145): O2, one lemma for each format and
family, whatever the operation. -/
namespace Sys2Proof

/-- A slice that lies wholly under a row's mask is what the row's match has there. -/
theorem field_of_mask {w mask pattern : Word} (h : w &&& mask = pattern) (lo : Nat) {n : Nat} {v : BitVec n}
    (hmask : field mask lo n = BitVec.allOnes n) (hpattern : field pattern lo n = v) : field w lo n = v := by
  rw [← hpattern, ← h, field, field, BitVec.extractLsb'_and, show mask.extractLsb' lo n = _ from hmask,
    BitVec.and_allOnes]

/-! ## The formats the ALU part of a word decides in -/

/-- Short, Register and Long, which share bits 13:0 (30_encoding.md R113 to R117, R123). -/
inductive AluFormat where
  | short
  | register
  | long

/-- The bits that tell the format. -/
def AluFormat.mask : AluFormat → Word
  | .short => 0x10000000#32
  | .register => 0x1C000000#32
  | .long => 0x1FFFC000#32

/-- What the format has in the bits that tell it. -/
def AluFormat.bits : AluFormat → Word
  | .short => 0x00000000#32
  | .register => 0x14000000#32
  | .long => 0x10000000#32

/-- The second operand of a two-operand instruction or compare of the format. -/
def AluFormat.op2 (w next : Word) : AluFormat → Op2
  | .short => .short (field w 18 10) (field w 14 4)
  | .register => .reg (regAt w 14) (shiftTypeOf (field w 19 2)) (field w 21 5)
  | .long => .long next

/-- The operand of a one-operand instruction of the format. -/
def AluFormat.op1 (w next : Word) : AluFormat → Op1
  | .short => .short (field w 0 5 ++ field w 18 10) (field w 14 4)
  | .register => .reg (regAt w 14) (shiftTypeOf (field w 19 2)) (field w 21 5)
  | .long => .long next

theorem decodeForm_of_format {w next : Word} (fm : AluFormat) (h : w &&& fm.mask = fm.bits) :
    decodeForm w next = decodeAlu w (fm.op2 w next) (fm.op1 w next) := by
  cases fm with
  | short => exact decodeForm_short (field_of_mask h 28 rfl rfl)
  | register => exact decodeForm_register (field_of_mask h 26 rfl rfl)
  | long => exact decodeForm_long (field_of_mask h 14 rfl rfl)

/-- A row whose mask covers the format's is in the format. -/
theorem and_mask_of_row {w mask pattern m bits : Word} (h : w &&& mask = pattern) (hmask : mask &&& m = m)
    (hbits : pattern &&& m = bits) : w &&& m = bits := by
  rw [← hbits, ← h, BitVec.and_assoc, hmask]

/-! ## The match of a row -/

/-- The bits of a format with an ALU opcode in bits 13:10. -/
def aluPattern (format : Word) (op : BitVec 4) : Word := format ||| op.setWidth 32 <<< 10

/-- The bits of a format with a compare: opcode 0111 in bits 13:10, the type in bits 9:7. -/
def cmpPattern (format : Word) (ty : BitVec 3) : Word := aluPattern format 7#4 ||| ty.setWidth 32 <<< 7

/-- The bits of Load and Store with an LSU opcode in bits 12:10. -/
def lsuPattern (op : BitVec 3) : Word := 0x12000000#32 ||| op.setWidth 32 <<< 10

/-- The bits of Branch with link in bit 25 and the register form in bit 26. -/
def branchPattern (reg link : Bool) : Word :=
  0x18000000#32 ||| (bif reg then 0x04000000#32 else 0#32) ||| (bif link then 0x02000000#32 else 0#32)

/-- The bits of Control with a code in bits 23:20. -/
def controlPattern (code : BitVec 4) : Word := 0x11000000#32 ||| code.setWidth 32 <<< 20

/-- The table writes the bits of MFHI and MTHI, whose codes are open, as a sum. -/
theorem add_eq_controlPattern (code : BitVec 4) : 0x11000000#32 + (code.setWidth 32 <<< 20) = controlPattern code := by
  revert code; decide

theorem controlPattern_format (code : BitVec 4) : field (controlPattern code) 24 5 = 0b10001#5 := by
  revert code; decide

theorem controlPattern_code (code : BitVec 4) : field (controlPattern code) 20 4 = code := by
  revert code; decide

/-! ## The rows -/

section Rows
variable {w next : Word}

theorem alu2_row (fm : AluFormat) (o : Alu2Op) (h : w &&& (fm.mask ||| 0x3C00#32) = aluPattern fm.bits o.bits) :
    decodeWord w next = .ok (Form.instr (.alu2 o (predOf w) (regAt w 5) (regAt w 0) (fm.op2 w next))) := by
  have hformat : w &&& fm.mask = fm.bits :=
    and_mask_of_row h (by cases fm <;> rfl) (by cases fm <;> cases o <;> rfl)
  have hop : field w 10 4 = o.bits := field_of_mask h 10 (by cases fm <;> rfl) (by cases fm <;> cases o <;> rfl)
  exact decodeWord_of_form ((decodeForm_of_format fm hformat).trans (decodeAlu_alu2 hop))

theorem alu1_row (fm : AluFormat) (o : Alu1Op) (h : w &&& (fm.mask ||| 0x3C00#32) = aluPattern fm.bits o.bits) :
    decodeWord w next = .ok (Form.instr (.alu1 o (predOf w) (regAt w 5) (fm.op1 w next))) := by
  have hformat : w &&& fm.mask = fm.bits :=
    and_mask_of_row h (by cases fm <;> rfl) (by cases fm <;> cases o <;> rfl)
  have hop : field w 10 4 = o.bits := field_of_mask h 10 (by cases fm <;> rfl) (by cases fm <;> cases o <;> rfl)
  exact decodeWord_of_form ((decodeForm_of_format fm hformat).trans (decodeAlu_alu1 hop))

theorem cmp_row (fm : AluFormat) (o : CmpOp) (h : w &&& (fm.mask ||| 0x3F80#32) = cmpPattern fm.bits o.bits) :
    decodeWord w next = .ok (Form.instr (.cmp o (predOf w) (field w 5 2).toFin (regAt w 0) (fm.op2 w next))) := by
  have hformat : w &&& fm.mask = fm.bits :=
    and_mask_of_row h (by cases fm <;> rfl) (by cases fm <;> cases o <;> rfl)
  have hop : field w 10 4 = 7#4 := field_of_mask h 10 (by cases fm <;> rfl) (by cases fm <;> cases o <;> rfl)
  have hty : field w 7 3 = o.bits := field_of_mask h 7 (by cases fm <;> rfl) (by cases fm <;> cases o <;> rfl)
  exact decodeWord_of_form ((decodeForm_of_format fm hformat).trans (decodeAlu_cmp hop hty))

/-- Regsh has one-operand instructions only (30_encoding.md R124). -/
theorem regsh_row (o : Alu1Op) (h : w &&& 0x1FE03C00#32 = aluPattern 0x10200000#32 o.bits) : decodeWord w next =
    .ok (Form.instr (.alu1 o (predOf w) (regAt w 5)
      (.regsh (regAt w 14) (shiftTypeOf (field w 19 2)) (regAt w 0)))) :=
  decodeWord_of_form ((decodeForm_regsh (field_of_mask h 21 rfl (by cases o <;> rfl))).trans
    (decodeRegsh_alu1 (field_of_mask h 10 rfl (by cases o <;> rfl))))

theorem load_row (o : LoadOp) (h : w &&& 0x1E001C00#32 = lsuPattern o.bits) : decodeWord w next =
    .ok (Form.instr (.load o (predOf w) (regAt w 5) (regAt w 0) (field w 13 12))) := by
  rw [← decodeLsu_load (field_of_mask h 10 rfl (by cases o <;> rfl))]
  exact decodeWord_of_form (decodeForm_lsu (field_of_mask h 25 rfl (by cases o <;> rfl)))

theorem store_row (o : StoreOp) (h : w &&& 0x1E001C00#32 = lsuPattern o.bits) : decodeWord w next =
    .ok (Form.instr (.store o (predOf w) (regAt w 14) (regAt w 0) (field w 19 6 ++ field w 13 1 ++ field w 5 5))) := by
  rw [← decodeLsu_store (field_of_mask h 10 rfl (by cases o <;> rfl))]
  exact decodeWord_of_form (decodeForm_lsu (field_of_mask h 25 rfl (by cases o <;> rfl)))

theorem branchImm_row (link : Bool) (h : w &&& 0x1E000000#32 = branchPattern false link) : decodeWord w next =
    .ok (Form.instr (.branch link (predOf w) (.imm (field w 0 25)))) := by
  rw [← decodeBranch_imm (field_of_mask h 26 rfl (by cases link <;> rfl)) (field_of_mask h 25 rfl (by cases link <;> rfl))]
  exact decodeWord_of_form (decodeForm_branch (field_of_mask h 27 rfl (by cases link <;> rfl)))

theorem branchReg_row (link : Bool) (h : w &&& 0x1E000000#32 = branchPattern true link) : decodeWord w next =
    .ok (Form.instr (.branch link (predOf w) (.reg (regAt w 0) (field w 5 20)))) := by
  rw [← decodeBranch_reg (field_of_mask h 26 rfl (by cases link <;> rfl)) (field_of_mask h 25 rfl (by cases link <;> rfl))]
  exact decodeWord_of_form (decodeForm_branch (field_of_mask h 27 rfl (by cases link <;> rfl)))

theorem decodeWord_control {c : CtlOp} (hformat : field w 24 5 = 0b10001#5) (h : decodeControl w = .ok c) :
    decodeWord w next = .ok (Form.instr (.ctl c (predOf w))) :=
  decodeWord_of_form ((decodeForm_control hformat).trans (by rw [h]; rfl))

/-- A row of the Control format that its code alone tells. -/
theorem control_row {code : BitVec 4} {c : CtlOp} (hc : field w 20 4 = code → decodeControl w = .ok c)
    (h : w &&& 0x1FF00000#32 = controlPattern code) : decodeWord w next = .ok (Form.instr (.ctl c (predOf w))) :=
  decodeWord_control (field_of_mask h 24 rfl (controlPattern_format code))
    (hc (field_of_mask h 20 rfl (controlPattern_code code)))

/-- MULT has code 1000 with bit 19 clear. -/
theorem mult_row (h : w &&& 0x1FF80000#32 = 0x11800000#32) :
    decodeWord w next = .ok (.mult (predOf w) (regAt w 5) (regAt w 0) (regAt w 14)) :=
  decodeWord_control (field_of_mask h 24 rfl rfl)
    (decodeControl_mult (field_of_mask h 20 rfl rfl) (field_of_mask h 19 rfl rfl))

/-- MULTS has code 1000 with bit 19 set. -/
theorem mults_row (h : w &&& 0x1FF80000#32 = 0x11880000#32) :
    decodeWord w next = .ok (.mults (predOf w) (regAt w 5) (regAt w 0) (regAt w 14)) :=
  decodeWord_control (field_of_mask h 24 rfl rfl)
    (decodeControl_mults (field_of_mask h 20 rfl rfl) (field_of_mask h 19 rfl rfl))

end Rows

/-! ## Fields read bit by bit -/

theorem field_one (w : Word) (lo : Nat) : field w lo 1 = BitVec.ofBool (w.getLsbD lo) := by
  ext i hi
  obtain rfl : i = 0 := by omega
  simp [field]

theorem field_two (w : Word) (lo : Nat) :
    field w lo 2 = BitVec.ofBool (w.getLsbD (lo + 1)) ++ BitVec.ofBool (w.getLsbD lo) := by
  rw [← field_one, ← field_one]
  exact (field_append_iff (n := 1) (m := 1)).mpr ⟨rfl, rfl⟩

theorem predOf_eq (w : Word) : predOf w = ⟨(w.extractLsb' 30 2).toFin, w.getLsbD 29⟩ := by
  rw [predOf, field_one]
  cases w.getLsbD 29 <;> rfl

theorem shiftTypeOf_ofBool (hi lo : Bool) : shiftTypeOf (BitVec.ofBool hi ++ BitVec.ofBool lo) =
    if hi then (if lo then .ror else .asr) else (if lo then .lsr else .lsl) := by
  revert hi lo; decide

theorem flushTypeOf_ofBool (hi lo : Bool) : flushTypeOf (BitVec.ofBool hi ++ BitVec.ofBool lo) =
    if hi then (if lo then .itlb else .dtlb) else (if lo then .inst else .data) := by
  revert hi lo; decide

/-- Settles O2, row by row in the order of the table. -/
theorem tableRowsDecodeByMaskAndMatch : Obligations.TableRowsDecodeByMaskAndMatch := by
  intro w next p rd rs rt pd imm10 imm15 rot amt ty flush offL offS off25 off20 row
  have hp : predOf w = p := predOf_eq w
  have hty : shiftTypeOf (field w 19 2) = ty := by rw [field_two, shiftTypeOf_ofBool]
  have hflush : flushTypeOf (field w 10 2) = flush := by rw [field_two, flushTypeOf_ofBool]
  clear_value p ty flush
  subst hp hty hflush
  refine ⟨?short, ?register, ?long, ?memoryAndBranch, ?control⟩
  case short =>
    exact ⟨alu2_row .short .addOp, alu2_row .short .andOp, alu2_row .short .norOp, alu2_row .short .orOp,
      alu2_row .short .subOp, alu2_row .short .rsbOp, alu2_row .short .xorOp,
      alu1_row .short .movOp, alu1_row .short .mvnOp, alu1_row .short .sxbOp, alu1_row .short .sxhOp,
      cmp_row .short .cmpltuOp, cmp_row .short .cmpleuOp, cmp_row .short .cmpeqOp,
      cmp_row .short .cmpltsOp, cmp_row .short .cmplesOp, cmp_row .short .cmpbsOp, cmp_row .short .cmpbcOp⟩
  case register =>
    exact ⟨alu2_row .register .addOp, alu2_row .register .andOp, alu2_row .register .norOp, alu2_row .register .orOp,
      alu2_row .register .subOp, alu2_row .register .rsbOp, alu2_row .register .xorOp,
      alu1_row .register .movOp, regsh_row .movOp, alu1_row .register .mvnOp, regsh_row .mvnOp,
      alu1_row .register .sxbOp, regsh_row .sxbOp, alu1_row .register .sxhOp, regsh_row .sxhOp,
      cmp_row .register .cmpltuOp, cmp_row .register .cmpleuOp, cmp_row .register .cmpeqOp,
      cmp_row .register .cmpltsOp, cmp_row .register .cmplesOp, cmp_row .register .cmpbsOp, cmp_row .register .cmpbcOp⟩
  case long =>
    exact ⟨alu2_row .long .addOp, alu2_row .long .andOp, alu2_row .long .norOp, alu2_row .long .orOp,
      alu2_row .long .subOp, alu2_row .long .rsbOp, alu2_row .long .xorOp,
      alu1_row .long .movOp, alu1_row .long .mvnOp, alu1_row .long .sxbOp, alu1_row .long .sxhOp,
      cmp_row .long .cmpltuOp, cmp_row .long .cmpleuOp, cmp_row .long .cmpeqOp,
      cmp_row .long .cmpltsOp, cmp_row .long .cmplesOp, cmp_row .long .cmpbsOp, cmp_row .long .cmpbcOp⟩
  case memoryAndBranch =>
    exact ⟨load_row .lbOp, load_row .lhOp, load_row .lwOp, load_row .llOp,
      store_row .sbOp, store_row .shOp, store_row .swOp, store_row .scOp,
      branchImm_row false, branchReg_row false, branchImm_row true, branchReg_row true⟩
  case control =>
    exact ⟨control_row decodeControl_brk, control_row decodeControl_syscall, control_row decodeControl_fence,
      control_row decodeControl_eret, control_row decodeControl_flush, control_row decodeControl_mfc,
      control_row decodeControl_mtc,
      fun h => control_row decodeControl_mfhi (h.trans (add_eq_controlPattern encMfhi)),
      fun h => control_row decodeControl_mthi (h.trans (add_eq_controlPattern encMthi)),
      mult_row, mults_row, control_row decodeControl_div⟩

end Sys2Proof
end

section
/-! Predicates, shifts and the second operand (40_packet_and_operands.md R165, R175 to R177): O28, O29, O30. -/
namespace Sys2Proof.Machine

/-! ## Predicates -/

/-- A predicate is the register it names, P3 being 1, inverted or not (10_state.md R26, decision D46). -/
theorem holds_eq (s : State) (p : Pred) : s.holds p =
    ((if p.reg = 0 then s.p0 else if p.reg = 1 then s.p1 else if p.reg = 2 then s.p2 else true) ^^ p.inv) := by
  obtain ⟨n, inv⟩ := p
  match n with
  | 0 => rfl
  | 1 => rfl
  | 2 => rfl
  | 3 => rfl

/-- Settles O28: the PRED field is read back from the encoded word, and a false predicate makes the one lane idle. -/
theorem falsePredicateDoesNothing : Obligations.FalsePredicateDoesNothing := by
  refine ⟨holds_eq, fun i w ws h => ?_, fun i s h => ?_⟩
  · have hp : predOf ((encode i).headD 0#32) = i.pred := Laws.encodedPred_of_form i.form
    rw [h, List.headD_cons, predOf_eq] at hp
    exact ⟨congrArg Pred.reg hp.symm, congrArg Pred.inv hp.symm⟩
  · rw [exec_eq_runAlone, runAlone_of_not_holds _ _ _ _ h]
    rfl

/-! ## Shifts -/

/-- A bit of a rotation to the right by less than the width. -/
theorem getLsbD_ror32 (v : Word) {n k : Nat} (hn : n < 32) (hk : k < 32) :
    (ror32 v n).getLsbD k = v.getLsbD ((k + n) % 32) := by
  simp only [ror32, BitVec.getLsbD_or, BitVec.getLsbD_ushiftRight, BitVec.getLsbD_shiftLeft]
  by_cases h : k + n < 32
  · have hlow : k < 32 - n := by omega
    rw [Nat.mod_eq_of_lt h, Nat.add_comm]
    simp [hlow]
  · have hmod : (k + n) % 32 = k - (32 - n) := by omega
    have hhigh : v.getLsbD (n + k) = false := BitVec.getLsbD_of_ge v _ (by omega)
    have hlow : ¬ k < 32 - n := by omega
    rw [hmod, hhigh]
    simp [hk, hlow]

/-- A bit of a shift to the left by any amount. -/
theorem getLsbD_shift_lsl (v : Word) (n : Nat) {k : Nat} (hk : k < 32) :
    (shift v .lsl n).getLsbD k = (decide (n ≤ k) && v.getLsbD (k - n)) := by
  rw [shift]
  split
  · simp only [BitVec.getLsbD_shiftLeft, hk, decide_true, Bool.true_and, ← Nat.not_lt, decide_not]
  · have : ¬ n ≤ k := by omega
    simp [this]

/-- A bit of a logical shift to the right by any amount. -/
theorem getLsbD_shift_lsr (v : Word) (n : Nat) {k : Nat} :
    (shift v .lsr n).getLsbD k = (decide (k + n < 32) && v.getLsbD (k + n)) := by
  have hge : ¬ k + n < 32 → v.getLsbD (k + n) = false := fun h => BitVec.getLsbD_of_ge v _ (by omega)
  rw [shift]
  split
  · rw [BitVec.getLsbD_ushiftRight, Nat.add_comm]
    by_cases h : k + n < 32 <;> simp [h, hge]
  · have : ¬ k + n < 32 := by omega
    simp [this]

/-- A bit of an arithmetic shift to the right by any amount: beyond the word the sign. -/
theorem getLsbD_shift_asr (v : Word) (n : Nat) {k : Nat} (hk : k < 32) :
    (shift v .asr n).getLsbD k = if k + n < 32 then v.getLsbD (k + n) else v.getLsbD 31 := by
  have hmsb : v.msb = v.getLsbD 31 := BitVec.msb_eq_getLsbD_last v
  rw [shift]
  split
  · rw [BitVec.getLsbD_sshiftRight, hmsb, Nat.add_comm n k]
    have : ¬ 32 ≤ k := by omega
    simp [this]
  · have hout : ¬ k + n < 32 := by omega
    have hones : (0xFFFFFFFF#32).getLsbD k = true := by
      have h := BitVec.getLsbD_allOnes (v := 32) (i := k)
      exact h.trans (decide_eq_true hk)
    rw [if_neg hout, hmsb]
    cases v.getLsbD 31 <;> simp [hones]

/-- A bit of a rotation to the right by any amount. -/
theorem getLsbD_shift_ror (v : Word) (n : Nat) {k : Nat} (hk : k < 32) :
    (shift v .ror n).getLsbD k = v.getLsbD ((k + n) % 32) := by
  rw [shift, getLsbD_ror32 v (Nat.mod_lt _ (by decide)) hk, Nat.add_mod_mod]

/-- Settles O29, by the shift type. -/
theorem shiftBits : Obligations.ShiftBits := fun v n _ hk =>
  ⟨getLsbD_shift_lsl v n hk, getLsbD_shift_lsr v n, getLsbD_shift_asr v n hk, getLsbD_shift_ror v n hk⟩

/-! ## The second operand -/

/-- A bit of a rotated constant: twice the rotation field (30_encoding.md R125, R126). -/
theorem getLsbD_ror32_setWidth {w : Nat} (imm : BitVec w) (rot : BitVec 4) {k : Nat} (hk : k < 32) :
    (ror32 (imm.setWidth 32) (2 * rot.toNat)).getLsbD k = imm.getLsbD ((k + 2 * rot.toNat) % 32) := by
  have hrot : rot.toNat < 2 ^ 4 := rot.isLt
  have hmod : (k + 2 * rot.toNat) % 32 < 32 := Nat.mod_lt _ (by decide)
  rw [getLsbD_ror32 _ (by omega) hk, BitVec.getLsbD_setWidth]
  simp [hmod]

/-- Settles O30: the constants bit by bit, the other formats by definition. -/
theorem secondOperandByFormat : Obligations.SecondOperandByFormat := fun _ i10 i15 rot _ _ _ _ _ =>
  ⟨fun _ => getLsbD_ror32_setWidth i10 rot, fun _ => getLsbD_ror32_setWidth i15 rot, rfl, rfl, rfl, rfl, rfl, fun _ => rfl⟩

end Sys2Proof.Machine
end

section
/-! Slots and the destinations their instructions name (40_packet_and_operands.md R160 to R168): O5, O6, O14. -/
namespace Sys2Proof.Machine

/-! ## Classification -/

/-- Bits 28:14 alone say that a word is in a long form (40_packet_and_operands.md R164). -/
theorem isLong_iff (w : Word) : isLong w = true ↔ w.extractLsb' 14 15 = 0b100000000000000#15 := beq_iff_eq

theorem slotOf_eq_instr_iff (w next : Word) (i : Instr) : slotOf w next = .instr i ↔ decodeWord w next = .ok i := by
  unfold slotOf
  split <;> simp_all

theorem slotOf_eq_undefined_iff (w next : Word) : slotOf w next = .undefined ↔ ∃ e, decodeWord w next = .error e := by
  unfold slotOf
  split <;> simp_all

@[simp] theorem slotOf_ne_operand (w next : Word) : slotOf w next ≠ .operand := by
  unfold slotOf
  split <;> nofun

/-- The slot after one that is a constant exactly if `c` says so is a constant exactly if that one is decoded and its word is
in a long form. -/
theorem operand_after_iff (c : Bool) (w next next' : Word) (w' : Word) :
    some (if (!c && isLong w) then Slot.operand else slotOf w' next') = some .operand ↔
      some (if c then Slot.operand else slotOf w next) ≠ some .operand ∧ isLong w = true := by
  cases c with
  | true => simp
  | false => cases isLong w <;> simp

/-- A slot that is no constant holds what its word decodes to. -/
theorem eq_slotOf_of_ne_operand {c : Bool} {w next : Word}
    (h : some (if c then Slot.operand else slotOf w next) ≠ some .operand) :
    some (if c then Slot.operand else slotOf w next) = some (slotOf w next) := by
  cases c with
  | true => exact absurd rfl h
  | false => rfl

/-- Settles O5: in each slot the test that classification makes, by whether the slot before it is a constant. -/
theorem slotAfterLongFormIsOperand : Obligations.SlotAfterLongFormIsOperand := by
  intro w0 w1 w2 w3 ws slots long
  refine ⟨rfl, fun h => slotOf_ne_operand w0 w1 (Option.some.inj h), fun k w hk hw => ?_, fun k w hk hw hno => ?_⟩
  · rw [show long w ↔ isLong w = true from (isLong_iff w).symm]
    match k, hk with
    | 0, _ => cases hw; exact operand_after_iff false w0 w1 w2 w1
    | 1, _ => cases hw; exact operand_after_iff (isLong w0) w1 w2 w3 w2
    | 2, _ => cases hw; exact operand_after_iff (!isLong w0 && isLong w1) w2 w3 0#32 w3
  · match k, hk with
    | 0, _ => cases hw; rfl
    | 1, _ => cases hw; exact eq_slotOf_of_ne_operand hno
    | 2, _ => cases hw; exact eq_slotOf_of_ne_operand hno
    | 3, _ => cases hw; exact eq_slotOf_of_ne_operand hno

/-! ## Two instructions that name one destination -/

/-- The instructions of a packet, each with its slot. -/
theorem mem_lanesFrom {slots : List Slot} {k m : Nat} {i : Instr} :
    (m, i) ∈ lanesFrom k slots ↔ ∃ j, m = k + j ∧ slots[j]? = some (.instr i) := by
  induction slots generalizing k with
  | nil => simp [lanesFrom]
  | cons x xs ih =>
    have htail : (m, i) ∈ lanesFrom (k + 1) xs ↔ ∃ j, m = k + (j + 1) ∧ xs[j]? = some (.instr i) := by
      simp only [ih, Nat.add_assoc, Nat.add_comm 1]
    have hsplit : (∃ j, m = k + j ∧ (x :: xs)[j]? = some (.instr i)) ↔
        (m = k ∧ x = .instr i) ∨ ∃ j, m = k + (j + 1) ∧ xs[j]? = some (.instr i) := by
      constructor
      · rintro ⟨_ | j, hm, hj⟩
        · exact .inl ⟨hm, Option.some.inj hj⟩
        · exact .inr ⟨j, hm, hj⟩
      · rintro (⟨hm, rfl⟩ | ⟨j, hm, hj⟩)
        · exact ⟨0, hm, rfl⟩
        · exact ⟨j + 1, hm, hj⟩
    rw [hsplit, ← htail]
    cases x with
    | operand => simp [lanesFrom]
    | undefined => simp [lanesFrom]
    | instr y => simp [lanesFrom, eq_comm (a := i)]

/-- The instructions of a packet come in the order of their slots. -/
theorem lanesFrom_pairwise (slots : List Slot) (k : Nat) : (lanesFrom k slots).Pairwise fun a b => a.1 < b.1 := by
  induction slots generalizing k with
  | nil => exact .nil
  | cons x xs ih =>
    cases x with
    | operand => exact ih (k + 1)
    | undefined => exact ih (k + 1)
    | instr i =>
      refine List.Pairwise.cons (fun ⟨m, y⟩ hy => ?_) (ih (k + 1))
      obtain ⟨j, rfl, -⟩ := mem_lanesFrom.mp hy
      omega

/-- At least two instructions of a packet meet `p` exactly if those of some two slots do. -/
theorem two_le_length_filter_lanesFrom {slots : List Slot} {p : Nat × Instr → Bool} :
    2 ≤ ((lanesFrom 0 slots).filter p).length ↔
      ∃ (j k : Nat) (a b : Instr), j < k ∧ slots[j]? = some (.instr a) ∧ slots[k]? = some (.instr b) ∧
        p (j, a) = true ∧ p (k, b) = true := by
  have hmem : ∀ m i, (m, i) ∈ (lanesFrom 0 slots).filter p ↔ slots[m]? = some (.instr i) ∧ p (m, i) = true := by
    simp [mem_lanesFrom]
  constructor
  · intro h
    have horder := (lanesFrom_pairwise slots 0).filter p
    match hl : (lanesFrom 0 slots).filter p with
    | [] => simp [hl] at h
    | [_] => simp [hl] at h
    | (j, a) :: (k, b) :: rest =>
      rw [hl, List.pairwise_cons] at horder
      obtain ⟨ha, hpa⟩ := (hmem j a).mp (by simp [hl])
      obtain ⟨hb, hpb⟩ := (hmem k b).mp (by simp [hl])
      exact ⟨j, k, a, b, horder.1 _ List.mem_cons_self, ha, hb, hpa, hpb⟩
  · rintro ⟨j, k, a, b, hjk, ha, hb, hpa, hpb⟩
    have hja := (hmem j a).mpr ⟨ha, hpa⟩
    have hkb := (hmem k b).mpr ⟨hb, hpb⟩
    by_contra hlt
    match hl : (lanesFrom 0 slots).filter p with
    | [] => simp [hl] at hja
    | [l] =>
      simp only [hl, List.mem_singleton] at hja hkb
      have := congrArg Prod.fst (hja.trans hkb.symm)
      omega
    | _ :: _ :: _ => simp [hl] at hlt

section
variable {α : Type} [DecidableEq α] {dest : Instr → Option α} {d : α} {slots : List Slot} {s : State}

/-- At least two instructions of a packet name a destination. -/
theorem two_le_namers_iff :
    2 ≤ ((lanesFrom 0 slots).filter fun l => dest l.2 == some d).length ↔ namedTwice dest d slots := by
  simp only [two_le_length_filter_lanesFrom, beq_iff_eq, namedTwice]

/-- A destination is undecided if two instructions name it and at most one of its namers has a true predicate
(40_packet_and_operands.md R168, second row). -/
theorem undecided_iff : undecided dest d (lanesFrom 0 slots) s = true ↔
    namedTwice dest d slots ∧ oneWriterAtMost dest d slots s := by
  simp only [undecided, Bool.and_eq_true, decide_eq_true_eq, two_le_namers_iff, List.filter_filter]
  refine and_congr_right fun _ => ?_
  rw [← not_lt, ← Nat.succ_le_iff, two_le_length_filter_lanesFrom]
  simp only [Bool.and_eq_true, beq_iff_eq, oneWriterAtMost, not_exists, not_and, ← Bool.not_eq_true]
  grind

/-- Two instructions write a destination if both name it, are legal in their slots and have true predicates
(40_packet_and_operands.md R168, first row). -/
theorem two_le_executingNamers_iff :
    2 ≤ (executingNamers dest d (lanesFrom 0 slots) s).length ↔
      ∃ (j k : Nat) (a b : Instr), j < k ∧ slots[j]? = some (.instr a) ∧ slots[k]? = some (.instr b) ∧
        (dest a = some d ∧ s.holds a.pred = true ∧ a.allowedIn j = true) ∧
        (dest b = some d ∧ s.holds b.pred = true ∧ b.allowedIn k = true) := by
  simp only [executingNamers, two_le_length_filter_lanesFrom, Bool.and_eq_true, beq_iff_eq]

end

/-! ## Packets that are refused -/

section
variable {ls : List (Nat × Instr)} {s : State} {i : Instr}

theorem undecidedDest_of_gpr {r : Reg} (h : i.gprDest = some r) (hu : undecided Instr.gprDest r ls s = true) :
    undecidedDest ls s i = true := by
  simp [undecidedDest, h, hu]

theorem undecidedDest_of_pred {n : PredReg} (h : i.predDest = some n) (hn : n ≠ 3)
    (hu : undecided Instr.predDest n ls s = true) : undecidedDest ls s i = true := by
  simp [undecidedDest, h, hn, hu]

theorem undecidedDest_of_p3 (h : i.predDest = some 3)
    (hu : 2 ≤ (ls.filter fun l => l.2.predDest == some 3).length) : undecidedDest ls s i = true := by
  simp [undecidedDest, h, hu]

end

/-- A packet an instruction of which has an undecided destination is refused (40_packet_and_operands.md R168, U1). -/
theorem runPacket_of_undecidedDest {slots : List Slot} {s : State} {k : Nat} {i : Instr}
    (hk : slots[k]? = some (.instr i)) (h : undecidedDest (lanesFrom 0 slots) s i = true) :
    runPacket slots s = .refused .undecidedDestination := by
  have hany : ((lanesFrom 0 slots).any fun l => undecidedDest (lanesFrom 0 slots) s l.2) = true :=
    List.any_eq_true.mpr ⟨(k, i), mem_lanesFrom.mpr ⟨k, (Nat.zero_add k).symm, hk⟩, h⟩
  simp only [runPacket, packetRefusal, hany, if_true]

/-- A packet with an LL beside an SC or ERET that both execute is refused, whatever else it holds
(40_packet_and_operands.md R168, U2). -/
theorem runPacket_of_linkConflict {slots : List Slot} {s : State} (h : linkConflict (lanesFrom 0 slots) s = true) :
    runPacket slots s = .refused .undecidedDestination ∨ runPacket slots s = .refused .linkConflict := by
  cases hany : (lanesFrom 0 slots).any fun l => undecidedDest (lanesFrom 0 slots) s l.2 with
  | true => exact .inl (by simp only [runPacket, packetRefusal, hany, if_true])
  | false => exact .inr (by simp only [runPacket, packetRefusal, hany, h, if_true, Bool.false_eq_true, if_false])

theorem any_lanesFrom_iff {slots : List Slot} {p : Instr → Bool} :
    ((lanesFrom 0 slots).any fun l => p l.2) = true ↔ ∃ i, .instr i ∈ slots ∧ p i = true := by
  constructor
  · intro h
    obtain ⟨⟨m, i⟩, hm, hp⟩ := List.any_eq_true.mp h
    obtain ⟨j, -, hj⟩ := mem_lanesFrom.mp hm
    exact ⟨i, List.mem_of_getElem? hj, hp⟩
  · rintro ⟨i, hi, hp⟩
    obtain ⟨j, hj⟩ := List.mem_iff_getElem?.mp hi
    exact List.any_eq_true.mpr ⟨(j, i), mem_lanesFrom.mpr ⟨j, (Nat.zero_add j).symm, hj⟩, hp⟩

/-- An executing LL beside an executing SC or ERET. -/
theorem linkConflict_iff {slots : List Slot} {s : State} : linkConflict (lanesFrom 0 slots) s = true ↔
    (∃ i, executes slots s i ∧ Form.setsLink i.form = true) ∧ ∃ i, executes slots s i ∧ Form.clearsLink i.form = true := by
  simp only [linkConflict, Bool.and_eq_true, executes]
  rw [any_lanesFrom_iff (p := fun i => Form.setsLink i.form && s.holds i.pred),
    any_lanesFrom_iff (p := fun i => Form.clearsLink i.form && s.holds i.pred)]
  simp only [Bool.and_eq_true, and_assoc, and_comm (a := s.holds _ = true)]

/-- Settles O14: one of the two namers of a destination finds it undecided; and the link conflict. -/
theorem undecidedPacketsAreRefused : Obligations.UndecidedPacketsAreRefused := by
  intro slots s
  refine ⟨fun r htwice hone => ?_, fun n htwice hcase => ?_, fun p rd rs off c hll hc hp hcp hclears => ?_⟩
  · obtain ⟨j, -, a, -, -, ha, -, hda, -⟩ := id htwice
    exact runPacket_of_undecidedDest ha (undecidedDest_of_gpr hda (undecided_iff.mpr ⟨htwice, hone⟩))
  · obtain ⟨j, -, a, -, -, ha, -, hda, -⟩ := id htwice
    by_cases hn : n = 3
    · subst hn
      exact runPacket_of_undecidedDest ha (undecidedDest_of_p3 hda (two_le_namers_iff.mpr htwice))
    · have hone := hcase.resolve_left hn
      exact runPacket_of_undecidedDest ha (undecidedDest_of_pred hda hn (undecided_iff.mpr ⟨htwice, hone⟩))
  · have hclear : Form.clearsLink c.form = true := by
      obtain h | ⟨rt, rb, o, h⟩ := hclears <;> rw [h] <;> rfl
    exact runPacket_of_linkConflict (linkConflict_iff.mpr ⟨⟨_, ⟨hll, hp⟩, rfl⟩, c, ⟨hc, hcp⟩, hclear⟩)

/-! ## Packets whose instructions name distinct destinations -/

/-- No two instructions of the packet name a common destination (70_reset_and_hazards.md R382). -/
def namesDistinct (slots : List Slot) : Prop :=
  (∀ r, ¬ namedTwice Instr.gprDest r slots) ∧ ∀ n, ¬ namedTwice Instr.predDest n slots

/-- Of a list of instructions with distinct destinations any two have none in common. -/
theorem disjointDest_of_destsDistinct {is : List (Option Instr)} (h : destsDistinct is = true) {j k : Nat} {a b : Instr}
    (hjk : j < k) (ha : is[j]? = some (some a)) (hb : is[k]? = some (some b)) : a.disjointDest b = true := by
  induction is generalizing j k with
  | nil => cases ha
  | cons x is ih =>
    obtain ⟨k, rfl⟩ : ∃ m, k = m + 1 := ⟨k - 1, by omega⟩
    have htail : destsDistinct is = true := by
      cases x with
      | none => exact h
      | some i => exact (Bool.and_eq_true_iff.mp h).2
    cases j with
    | zero =>
      cases Option.some.inj ha
      exact List.all_eq_true.mp (Bool.and_eq_true_iff.mp h).1 _ (List.mem_of_getElem? hb)
    | succ j => exact ih htail (by omega) ha hb

/-- The destinations of a well-formed packet are distinct. -/
theorem namesDistinct_of_destsDistinct {slots : List Slot} (h : destsDistinct (slots.map slotInstr) = true) :
    namesDistinct slots := by
  have hdisj : ∀ {j k : Nat} {a b : Instr}, j < k → slots[j]? = some (.instr a) → slots[k]? = some (.instr b) →
      a.disjointDest b = true := fun hjk ha hb =>
    disjointDest_of_destsDistinct h hjk (by rw [List.getElem?_map, ha]; rfl) (by rw [List.getElem?_map, hb]; rfl)
  refine ⟨fun r ⟨j, k, a, b, hjk, ha, hb, hda, hdb⟩ => ?_, fun n ⟨j, k, a, b, hjk, ha, hb, hda, hdb⟩ => ?_⟩
  · simpa [Instr.disjointDest, hda, hdb] using hdisj hjk ha hb
  · simpa [Instr.disjointDest, hda, hdb] using hdisj hjk ha hb

section
variable {slots : List Slot} {s : State}

theorem undecided_eq_false {α : Type} [DecidableEq α] {dest : Instr → Option α} {d : α} (h : ¬ namedTwice dest d slots) :
    undecided dest d (lanesFrom 0 slots) s = false := by
  rw [← Bool.not_eq_true, undecided_iff]
  exact fun hu => h hu.1

theorem executingNamers_lt_two {α : Type} [DecidableEq α] {dest : Instr → Option α} {d : α}
    (h : ¬ namedTwice dest d slots) : ¬ 2 ≤ (executingNamers dest d (lanesFrom 0 slots) s).length := by
  rw [two_le_executingNamers_iff]
  rintro ⟨j, k, a, b, hjk, ha, hb, ⟨hda, -⟩, hdb, -⟩
  exact h ⟨j, k, a, b, hjk, ha, hb, hda, hdb⟩

theorem undecidedDest_eq_false (h : namesDistinct slots) (i : Instr) : undecidedDest (lanesFrom 0 slots) s i = false := by
  obtain ⟨hgpr, hpred⟩ := h
  have hp3 := mt two_le_namers_iff.mp (hpred 3)
  unfold undecidedDest
  cases i.gprDest <;> cases i.predDest <;> simp [undecided_eq_false (hgpr _), undecided_eq_false (hpred _), hp3]

/-- Nothing is written twice where the destinations are distinct. -/
theorem duplicateDest_eq_false (h : namesDistinct slots) (i : Instr) : duplicateDest (lanesFrom 0 slots) s i = false := by
  obtain ⟨hgpr, hpred⟩ := h
  unfold duplicateDest
  cases i.gprDest <;> cases i.predDest <;> simp [executingNamers_lt_two (hgpr _), executingNamers_lt_two (hpred _)]

/-- A packet with distinct destinations and no link conflict is not refused by R168. -/
theorem packetRefusal_eq_none (h : namesDistinct slots) (hlink : linkConflict (lanesFrom 0 slots) s = false) :
    packetRefusal (lanesFrom 0 slots) s = none := by
  simp [packetRefusal, undecidedDest_eq_false h, hlink]

end

/-! ## A packet whose slot 0 alone executes -/

theorem firstStop_cons_idle (o : LaneOut) {outs : List LaneOut} (h : ∀ x ∈ outs, x = LaneOut.idle) :
    firstStop (o :: outs) = firstStop [o] := by
  have hnone : firstStop outs = none := (firstStop_eq_none_iff outs).mpr fun x hx => h x hx ▸ rfl
  cases o <;> simp [firstStop, hnone]

/-- Idle lanes do not change how a packet ends (40_packet_and_operands.md R165). -/
theorem finish_cons_idle (o : LaneOut) {outs : List LaneOut} (h : ∀ x ∈ outs, x = LaneOut.idle) (s : State) :
    finish (o :: outs) s = finish [o] s := by
  have haccess : outs.filterMap LaneOut.access = [] := List.filterMap_eq_nil_iff.mpr fun x hx => h x hx ▸ rfl
  have hqueue : outs.flatMap LaneOut.queue = [] := List.flatMap_eq_nil_iff.mpr fun x hx => h x hx ▸ rfl
  have hfills : outs.flatMap LaneOut.fills = [] := List.flatMap_eq_nil_iff.mpr fun x hx => h x hx ▸ rfl
  have hraise : (outs.any fun x => x.exc.isSome) = false := List.any_eq_false.mpr fun x hx => h x hx ▸ nofun
  have hcancel : outs.any LaneOut.cancels = false := List.any_eq_false.mpr fun x hx => h x hx ▸ nofun
  have hexc : ∀ k : Nat, (outs[k]?).bind LaneOut.exc = none := fun k => by
    cases hk : outs[k]? with
    | none => rfl
    | some x => rw [h x (List.mem_of_getElem? hk)]; rfl
  have hstores : survivingStoresFrom s.tick 1 outs = [] := List.eq_nil_iff_forall_not_mem.mpr fun w hw => by
    obtain ⟨j, x, hx, hw, -⟩ := (mem_survivingStoresFrom _ _ _ _).mp hw
    rw [h x (List.mem_of_getElem? hx)] at hw
    cases hw
  simp [finish, firstStop_cons_idle o h, haccess, List.filterMap_cons, hraise, commit, State.fillData, hqueue, hfills,
    trapPacket, survivingStores, survivingStoresFrom, hcancel, hexc, hstores]

/-- Every instruction of a well-formed packet is allowed in its slot. -/
theorem allowedIn_of_slotsWellPlaced {is : List (Option Instr)} {k : Nat} (h : slotsWellPlaced k is = true) {j : Nat}
    {i : Instr} (hi : is[j]? = some (some i)) : i.allowedIn (k + j) = true := by
  induction is generalizing k j with
  | nil => cases hi
  | cons x is ih =>
    have htail : slotsWellPlaced (k + 1) is = true := by
      cases x with
      | none => exact h
      | some y => exact (Bool.and_eq_true_iff.mp h).2
    cases j with
    | zero =>
      cases Option.some.inj hi
      simp only [slotsWellPlaced, Bool.and_eq_true] at h
      exact h.1.1.2
    | succ j =>
      have := ih htail hi
      rwa [Nat.add_right_comm] at this

/-- A slot does nothing if it holds a constant or an instruction that is allowed there and has a false predicate. -/
theorem runSlot_eq_idle {ls : List (Nat × Instr)} {s : State} {k : Nat} {x : Slot} (hx : x ≠ .undefined)
    (h : ∀ i, x = .instr i → i.allowedIn k = true ∧ s.holds i.pred = false) : runSlot ls s k x = .idle := by
  cases x with
  | operand => rfl
  | undefined => exact absurd rfl hx
  | instr i =>
    obtain ⟨hallowed, hpred⟩ := h i rfl
    simp [runSlot, hallowed, guardLane, hpred]

/-- No instruction both sets and clears the link bit. -/
theorem not_setsLink_and_clearsLink {f : Form} (hset : Form.setsLink f = true) (hclear : Form.clearsLink f = true) : False := by
  cases f with
  | load o => cases hclear
  | _ => cases hset

/-- A well-formed packet whose slot 0 holds `i` and whose other instructions have false predicates runs as `i` alone
(40_packet_and_operands.md R165; log 1). -/
theorem runPacket_eq_exec {i : Instr} {xs : List Slot} {s : State} (hdefined : .undefined ∉ xs)
    (hwf : packetWellFormed ((Slot.instr i :: xs).map slotInstr) = true) (hfalse : ∀ j, .instr j ∈ xs → s.holds j.pred = false) :
    runPacket (.instr i :: xs) s = exec i s := by
  simp only [packetWellFormed, Bool.and_eq_true] at hwf
  obtain ⟨⟨-, hplaced⟩, hdest⟩ := hwf
  have hdistinct := namesDistinct_of_destsDistinct hdest
  have hallowed : ∀ (j : Nat) (y : Instr), (Slot.instr i :: xs)[j]? = some (.instr y) → y.allowedIn j = true := fun j y hy => by
    have := allowedIn_of_slotsWellPlaced hplaced (j := j) (i := y) (by rw [List.getElem?_map, hy]; rfl)
    rwa [Nat.zero_add] at this
  have honly : ∀ y, executes (.instr i :: xs) s y → y = i := fun y ⟨hy, hp⟩ => by
    obtain h | h := List.mem_cons.mp hy
    · exact Slot.instr.inj h
    · rw [hfalse y h] at hp; cases hp
  have hlink : linkConflict (lanesFrom 0 (.instr i :: xs)) s = false := by
    rw [← Bool.not_eq_true, linkConflict_iff]
    rintro ⟨⟨a, ha, hset⟩, b, hb, hclear⟩
    rw [honly a ha] at hset
    rw [honly b hb] at hclear
    exact not_setsLink_and_clearsLink hset hclear
  have hidle : ∀ o ∈ runSlots (lanesFrom 0 (.instr i :: xs)) s 1 xs, o = LaneOut.idle := fun o ho => by
    obtain ⟨j, x, hx, rfl⟩ := (mem_runSlots xs 1).mp ho
    have hmem := List.mem_of_getElem? hx
    refine runSlot_eq_idle (fun h => hdefined (h ▸ hmem)) fun y hy => ?_
    subst hy
    exact ⟨hallowed (1 + j) y (by rw [Nat.add_comm, List.getElem?_cons_succ, hx]), hfalse y hmem⟩
  simp only [runPacket, packetRefusal_eq_none hdistinct hlink, runSlots, runSlot, hallowed 0 i rfl, if_true,
    duplicateDest_eq_false hdistinct, finish_cons_idle _ hidle, exec_eq_runAlone, runAlone]

/-- Settles O6: by the branches of the step and of the fetch, then runPacket_eq_exec. -/
theorem stepRunsTheDecodedInstruction : Obligations.StepRunsTheDecodedInstruction := by
  refine ⟨fun s pa fills w0 w1 w2 w3 hirq htrans h0 h1 h2 h3 => ?_, fun w next =>
    ⟨slotOf_eq_instr_iff w next, slotOf_eq_undefined_iff w next⟩⟩
  have hpacket : s.passBoundary.packetAt pa = some (classify w0 w1 w2 w3) := by
    simp only [State.packetAt, h0, h1, h2, h3]
  have htrans' : s.passBoundary.translate 0 .fetch s.passBoundary.pc = .ok pa fills := htrans
  have hstep : step s = runPacket (classify w0 w1 w2 w3) (s.passBoundary.fillFetch fills) := by
    simp only [step, hirq, fetchAndRun, htrans', hpacket]
  refine ⟨hstep, fun i xs _ hslots hdefined hwf hfalse => ?_⟩
  rw [hstep, hslots]
  exact runPacket_eq_exec hdefined hwf hfalse

end Sys2Proof.Machine
end

section
/-! The stores of a packet and its trap (20_memory.md R68, 40_packet_and_operands.md R167 to R170): O11, O12, O13. -/
namespace Sys2Proof.Machine

/-! ## What one write does to memory and the L2 view -/

/-- The write stores to the byte at `q`. -/
def Write.covers (q : Nat) : Write → Prop
  | .store pa n _ => pa ≤ q ∧ q < pa + n
  | _ => False

/-- The two writes store to no common byte. -/
def Write.storesApart (w w' : Write) : Prop := ∀ q, w.covers q → ¬ w'.covers q

theorem Write.storesApart.symm {w w' : Write} (h : w.storesApart w') : w'.storesApart w := fun q h' hw => h q hw h'

theorem apply_isRam (w : Write) (s : State) (q : Nat) : (s.apply w).isRam q = s.isRam q :=
  isRam_congr (congrArg Prod.fst (apply_inputs w s)) q

/-- A byte that a write does not cover stays. -/
theorem read_apply_of_not_covers {w : Write} {q : Nat} (h : ¬ w.covers q) (s : State) :
    Memory.read (s.apply w).mem q = Memory.read s.mem q := by
  cases w with
  | store pa n v =>
    rw [State.apply, read_storeBytes, if_neg]
    exact fun ⟨hlo, hhi, _⟩ => h ⟨hlo, hhi⟩
  | _ => simp [State.apply]

/-- What the L2 view may hold after a write it might hold before, or the write replaced it (20_memory.md R98). -/
theorem of_mem_l2old_apply {w : Write} {s : State} {o : OldByte} (h : o ∈ (s.apply w).l2old) :
    o ∈ s.l2old ∨ (w.covers o.1 ∧ s.isRam o.1 = true ∧ o.2 = Memory.read s.mem o.1) := by
  cases w with
  | store pa n v =>
    refine ((mem_l2old_storeBytes n s pa v o).mp h).imp_right ?_
    rintro ⟨hlo, hhi, hrest⟩
    exact ⟨⟨hlo, hhi⟩, hrest⟩
  | flushData pa => exact .inl (List.mem_filter.mp h).1
  | pred n b => exact .inl (by simpa [State.apply] using h)
  | cop c v => exact .inl (by simpa [State.apply] using h)
  | _ => exact .inl h

/-- A store takes nothing from what the L2 view may hold. -/
theorem mem_l2old_apply_of_isStore {w : Write} (hw : w.isStore = true) {s : State} {o : OldByte} (h : o ∈ s.l2old) :
    o ∈ (s.apply w).l2old := by
  cases w with
  | store pa n v => exact (mem_l2old_storeBytes n s pa v o).mpr (.inl h)
  | _ => cases hw

/-! ## What a list of writes does to memory and the L2 view -/

/-- A byte that no write of a list covers stays. -/
theorem read_applyAll_of_not_covers {ws : List Write} {q : Nat} (h : ∀ w ∈ ws, ¬ w.covers q) (s : State) :
    Memory.read (s.applyAll ws).mem q = Memory.read s.mem q :=
  applyAll_keeps (fun u => Memory.read u.mem q) (fun w hw u => read_apply_of_not_covers (h w hw) u) s

/-- A store of a list whose stores do not meet is performed whole, inside RAM. -/
theorem read_applyAll_of_store {ws : List Write} (hapart : ws.Pairwise Write.storesApart) {pa n : Nat} {v : Word}
    (hw : .store pa n v ∈ ws) {q : Nat} (hlo : pa ≤ q) (hhi : q < pa + n) (s : State) :
    Memory.read (s.applyAll ws).mem q =
      if s.isRam q then some ((v >>> (8 * (q - pa))).setWidth 8) else Memory.read s.mem q := by
  induction ws generalizing s with
  | nil => cases hw
  | cons w ws ih =>
    obtain ⟨hhead, htail⟩ := List.pairwise_cons.mp hapart
    change Memory.read ((s.apply w).applyAll ws).mem q = _
    obtain rfl | hw := List.mem_cons.mp hw
    · rw [read_applyAll_of_not_covers fun w' hw' => hhead w' hw' q ⟨hlo, hhi⟩, State.apply, read_storeBytes]
      simp [hlo, hhi]
    · have hnot : ¬ w.covers q := fun h => hhead _ hw q h ⟨hlo, hhi⟩
      rw [ih htail hw, apply_isRam, read_apply_of_not_covers hnot]

/-- What the L2 view may hold after a list of writes whose stores do not meet: what it might hold before, and what the stores
replaced. -/
theorem of_mem_l2old_applyAll {ws : List Write} (hapart : ws.Pairwise Write.storesApart) {s : State} {o : OldByte}
    (h : o ∈ (s.applyAll ws).l2old) :
    o ∈ s.l2old ∨ ((∃ w ∈ ws, w.covers o.1) ∧ s.isRam o.1 = true ∧ o.2 = Memory.read s.mem o.1) := by
  induction ws generalizing s with
  | nil => exact .inl h
  | cons w ws ih =>
    obtain ⟨hhead, htail⟩ := List.pairwise_cons.mp hapart
    obtain h | ⟨⟨w', hw', hcov⟩, hram, hread⟩ := ih htail (s := s.apply w) h
    · exact (of_mem_l2old_apply h).imp_right fun ⟨hcov, hrest⟩ => ⟨⟨w, List.mem_cons_self, hcov⟩, hrest⟩
    · have hnot : ¬ w.covers o.1 := fun hw => hhead w' hw' _ hw hcov
      rw [apply_isRam] at hram
      rw [read_apply_of_not_covers hnot] at hread
      exact .inr ⟨⟨w', List.mem_cons_of_mem _ hw', hcov⟩, hram, hread⟩

/-! ## What the lanes of a packet queue together -/

/-- What the write `w` did is not undone by the write `w'` after it. -/
def Write.keptBy (w w' : Write) : Prop :=
  match w with
  | .gpr r _ => ∀ v, w' ≠ .gpr r v
  | .pred n _ => ∀ b, w' ≠ .pred n b
  | .ovf _ => ∀ v, w' ≠ .ovf v
  | .link b => w' ≠ .link (!b)
  | .cop c _ => (∀ v, w' ≠ .cop c v) ∧ ∀ b, w' ≠ .ie b
  | .mode _ => ∀ m, w' ≠ .mode m
  | .ie _ => (∀ b, w' ≠ .ie b) ∧ ∀ v, w' ≠ .cop .pflags v
  | .pc _ => ∀ v, w' ≠ .pc v
  | .store pa n v => Write.storesApart (.store pa n v) w'
  | .flushData _ => True
  | .flushInst _ => ∀ pa, w' ≠ .flushData pa
  | .flushDtlb _ => True
  | .flushItlb _ => True

theorem Write.keptBy.storesApart {w w' : Write} (h : w.keptBy w') : w.storesApart w' := by
  cases w with
  | store pa n v => exact h
  | _ => exact fun _ h => h.elim

/-- A load queues its write of Rd and its further writes, or nothing. -/
theorem queue_loadLane (n : Nat) (ws : List Write) (rd rs : Reg) (off : BitVec 12) (k : Nat) (s : State) :
    (∃ v, (loadLane n ws rd rs off k s).queue = .gpr rd v :: ws) ∨ (loadLane n ws rd rs off k s).queue = [] := by
  unfold loadLane accessLane
  split
  · dsimp only
    split
    · exact .inl ⟨_, rfl⟩
    · exact .inr rfl
  all_goals exact .inr rfl

/-- A store queues its store, which it accesses, and its further writes, or nothing. -/
theorem queue_storeLane (n : Nat) (ws : List Write) (rt rs : Reg) (off : BitVec 12) (k : Nat) (s : State) :
    (∃ pa, (storeLane n ws rt rs off k s).queue = .store pa n (s.reg rt) :: ws ∧
      (storeLane n ws rt rs off k s).access = some ⟨pa, n, true⟩) ∨ (storeLane n ws rt rs off k s).queue = [] := by
  unfold storeLane accessLane
  split
  · exact .inl ⟨_, rfl, rfl⟩
  all_goals exact .inr rfl

theorem keptBy_load (o : LoadOp) (p : Pred) (rd rs : Reg) (off : BitVec 12) (k : Nat) (s : State) :
    (Form.lane k s (.load o p rd rs off)).queue.Pairwise Write.keptBy := by
  obtain ⟨v, h⟩ | h := queue_loadLane (LoadOp.bytes o) (LoadOp.extra o) rd rs off k s
  · rw [Form.lane, h]
    cases o <;> simp [LoadOp.extra, Write.keptBy]
  · rw [Form.lane, h]
    exact .nil

theorem keptBy_storeLane {n : Nat} {ws : List Write} (h : ws.Pairwise Write.keptBy) (hws : ∀ w ∈ ws, w.isStore = false)
    (rt rs : Reg) (off : BitVec 12) (k : Nat) (s : State) : (storeLane n ws rt rs off k s).queue.Pairwise Write.keptBy := by
  obtain ⟨pa, hq, -⟩ | hq := queue_storeLane n ws rt rs off k s
  · rw [hq]
    refine .cons (fun w hw q _ hcov => ?_) h
    have := hws w hw
    cases w with
    | store => cases this
    | _ => exact hcov
  · rw [hq]
    exact .nil

theorem keptBy_store (o : StoreOp) (p : Pred) (rt rs : Reg) (off : BitVec 12) (k : Nat) (s : State) :
    (Form.lane k s (.store o p rt rs off)).queue.Pairwise Write.keptBy := by
  cases o with
  | scOp =>
    change (laneSc rt rs off k s).queue.Pairwise _
    unfold laneSc
    split
    · exact keptBy_storeLane (by simp [Write.keptBy]) (by simp [Write.isStore]) rt rs off k s
    · simp [LaneOut.writes, LaneOut.queue, Write.keptBy]
  | _ => exact keptBy_storeLane .nil nofun rt rs off k s

theorem keptBy_flushLineLane (mk : Nat → Write) (rs : Reg) (k : Nat) (s : State) :
    (flushLineLane mk rs k s).queue.Pairwise Write.keptBy := by
  unfold flushLineLane
  split <;> simp [LaneOut.queue]

theorem keptBy_ctl (c : CtlOp) (p : Pred) (k : Nat) (s : State) :
    (Form.lane k s (.ctl c p)).queue.Pairwise Write.keptBy := by
  simp only [Form.lane]
  cases c with
  | eretOp => simp [CtlOp.lane, laneEret, eretWrites, LaneOut.writes, LaneOut.queue, Write.keptBy]
  | flushOp ty rs =>
    cases ty with
    | data => exact keptBy_flushLineLane _ rs k s
    | inst => exact keptBy_flushLineLane _ rs k s
    | dtlb => exact List.pairwise_singleton _ _
    | itlb => exact List.pairwise_singleton _ _
  | mfcOp rd n =>
    simp only [CtlOp.lane, laneMfc]
    split
    · exact List.pairwise_singleton _ _
    · exact .nil
  | mtcOp n rs =>
    simp only [CtlOp.lane, laneMtc]
    split
    · exact List.pairwise_singleton _ _
    · exact .nil
  | divOp rd rs rt =>
    simp only [CtlOp.lane, laneDiv]
    split
    · exact .nil
    · simp [LaneOut.writes, LaneOut.queue, Write.keptBy]
  | brkOp => exact .nil
  | syscallOp => exact .nil
  | fenceOp => exact .nil
  | mfhiOp rd => exact List.pairwise_singleton _ _
  | mthiOp rs => exact List.pairwise_singleton _ _
  | multOp rd rs rt => simp [CtlOp.lane, laneMult, productLane, LaneOut.writes, LaneOut.queue, Write.keptBy]
  | multsOp rd rs rt => simp [CtlOp.lane, laneMults, productLane, LaneOut.writes, LaneOut.queue, Write.keptBy]

/-- Of the writes of one instruction none undoes another. -/
theorem keptBy_lane (f : Form) (k : Nat) (s : State) : (Form.lane k s f).queue.Pairwise Write.keptBy := by
  cases f with
  | alu2 o p rd rs b => exact List.pairwise_singleton _ _
  | alu1 o p rd b => exact List.pairwise_singleton _ _
  | cmp o p pd rs b => exact List.pairwise_singleton _ _
  | load o p rd rs off => exact keptBy_load o p rd rs off k s
  | store o p rt rs off => exact keptBy_store o p rt rs off k s
  | branch link p g => cases link <;> simp [Form.lane, branchLane, LaneOut.writes, LaneOut.queue, Write.keptBy]
  | ctl c p => exact keptBy_ctl c p k s

/-- Of the writes of one slot none undoes another. -/
theorem keptBy_runSlot (ls : List (Nat × Instr)) (s : State) (k : Nat) (x : Slot) :
    (runSlot ls s k x).queue.Pairwise Write.keptBy := by
  obtain h | ⟨c, h⟩ | ⟨i, -, -, h⟩ := runSlot_cases ls s k x
  · rw [h]; exact .nil
  · rw [h]; exact .nil
  · rw [h, laneOf_eq_lane]
    exact keptBy_lane i.form k s

theorem access_of_store_mem_storeLane {n m k pa : Nat} {ws : List Write} {rt rs : Reg} {off : BitVec 12} {s : State} {v : Word}
    (hws : ∀ w ∈ ws, w.isStore = false) (h : .store pa m v ∈ (storeLane n ws rt rs off k s).queue) :
    (storeLane n ws rt rs off k s).access = some ⟨pa, m, true⟩ := by
  obtain ⟨pa', hq, ha⟩ | hq := queue_storeLane n ws rt rs off k s
  · rw [hq] at h
    obtain h | h := List.mem_cons.mp h
    · injection h with hpa hn
      rw [ha, hpa, hn]
    · cases hws _ h
  · rw [hq] at h
    cases h

/-- A slot that queues a store accesses its bytes. -/
theorem access_of_store_mem_queue {ls : List (Nat × Instr)} {s : State} {k pa n : Nat} {v : Word} {x : Slot}
    (h : .store pa n v ∈ (runSlot ls s k x).queue) : (runSlot ls s k x).access = some ⟨pa, n, true⟩ := by
  obtain hr | ⟨c, hr⟩ | ⟨i, -, -, hr⟩ := runSlot_cases ls s k x
  · rw [hr] at h; cases h
  · rw [hr] at h; cases h
  · rw [hr, laneOf_eq_lane] at h ⊢
    have hstore : Form.isStore i.form = true := mayQueue_of_mem_queue h
    cases hf : i.form with
    | store o p rt rs off =>
      rw [hf] at h
      cases o with
      | scOp =>
        change _ ∈ (laneSc rt rs off k s).queue at h
        change (laneSc rt rs off k s).access = _
        unfold laneSc at h ⊢
        split
        · rename_i hlink
          rw [if_pos hlink] at h
          exact access_of_store_mem_storeLane (by simp [Write.isStore]) h
        · rename_i hlink
          rw [if_neg hlink] at h
          simp [LaneOut.writes, LaneOut.queue] at h
      | _ => exact access_of_store_mem_storeLane nofun h
    | _ => rw [hf] at hstore; cases hstore

/-- Where no two accesses conflict, no two queued stores of a packet meet (20_memory.md R68). -/
theorem storesApart_queue {slots : List Slot} {s : State}
    (h : anyConflict ((lanesOut slots s).filterMap LaneOut.access) = false) :
    ((lanesOut slots s).flatMap LaneOut.queue).Pairwise Write.storesApart := by
  rw [anyConflict_eq_false_iff, List.pairwise_filterMap] at h
  refine List.pairwise_flatMap.mpr ⟨fun o ho => ?_, h.imp_of_mem fun {o o'} ho ho' hconf w hw w' hw' q hcov hcov' => ?_⟩
  · obtain ⟨k, x, -, rfl⟩ := mem_lanesOut.mp ho
    exact (keptBy_runSlot _ s k x).imp Write.keptBy.storesApart
  · obtain ⟨j, x, -, rfl⟩ := mem_lanesOut.mp ho
    obtain ⟨k, y, -, rfl⟩ := mem_lanesOut.mp ho'
    cases w with
    | store pa n v =>
      cases w' with
      | store pa' n' v' =>
        have hno := hconf _ (access_of_store_mem_queue hw) _ (access_of_store_mem_queue hw')
        obtain ⟨hlo, hhi⟩ := hcov
        obtain ⟨hlo', hhi'⟩ := hcov'
        rw [Access.conflicts_of_overlap (.inl rfl) ⟨q, hlo, hhi, hlo', hhi'⟩] at hno
        cases hno
      | _ => exact hcov'
    | _ => exact hcov

/-- A queued store covers the bytes that its packet stores to. -/
theorem storesTo_iff {slots : List Slot} {s : State} {a : Nat} :
    storesTo slots s a ↔ ∃ w ∈ (lanesOut slots s).flatMap LaneOut.queue, w.covers a := by
  simp only [List.mem_flatMap, mem_lanesOut]
  constructor
  · rintro ⟨k, x, pa, n, v, hx, hw, hcov⟩
    exact ⟨_, ⟨_, ⟨k, x, hx, rfl⟩, hw⟩, hcov⟩
  · rintro ⟨w, ⟨_, ⟨k, x, hx, rfl⟩, hw⟩, hcov⟩
    cases w with
    | store pa n v => exact ⟨k, x, pa, n, v, hx, hw, hcov⟩
    | _ => exact hcov.elim

end Sys2Proof.Machine
end

section
/-! The trap of a packet (40_packet_and_operands.md R167 to R170, 60_exceptions.md R340 to R343): O11, O12, O13. -/
namespace Sys2Proof.Machine

/-! ## What the trap of a packet does -/

/-- A packet with a next state and a lane that raises is cancelled: it traps, and no two of its accesses conflict. -/
theorem runPacket_of_raise {slots : List Slot} {s t : State} {k : Nat} {x : Slot} {e : Exc}
    (h : runPacket slots s = .next t) (hk : slots[k]? = some x) (he : (runSlot (lanesFrom 0 slots) s k x).exc = some e) :
    t = trapPacket (lanesOut slots s) s ∧ anyConflict ((lanesOut slots s).filterMap LaneOut.access) = false := by
  obtain ⟨-, hf⟩ := runPacket_cases h
  obtain ⟨-, hconf, ⟨-, ht⟩ | ⟨hnone, -⟩⟩ := finish_cases hf
  · exact ⟨ht, hconf⟩
  · have := List.any_eq_false.mp hnone _ (mem_lanesOut.mpr ⟨k, x, hk, rfl⟩)
    rw [he] at this
    exact absurd rfl this

/-- The state that trap entry of a packet starts from: what the lanes' translations gave the data TLB, and the stores let
through. -/
def trapStores (outs : List LaneOut) (s : State) : State := (s.fillData outs).applyAll (survivingStores outs s)

/-- Trap entry of a packet starts from the state before it but for memory, the L2 view and the data TLB. -/
theorem trapStores_eq (outs : List LaneOut) (s : State) :
    ∃ m l, trapStores outs s = { s.fillData outs with mem := m, l2old := l } := by
  have h := survivingStores_keep (fun u => { u with mem := [], l2old := [] }) (fun _ _ _ => rfl) outs s
  exact ⟨(trapStores outs s).mem, (trapStores outs s).l2old,
    congrArg (fun u : State => { u with mem := (trapStores outs s).mem, l2old := (trapStores outs s).l2old }) h⟩

/-- The trap of a packet has made trap entry (60_exceptions.md R340). -/
theorem trapped_trapPacket (outs : List LaneOut) (s : State) : trapped s (trapPacket outs s) := by
  obtain ⟨m, l, h⟩ := trapStores_eq outs s
  rw [trapPacket, ← trapStores, h]
  exact ⟨rfl, rfl, rfl, rfl, rfl, rfl, rfl, rfl, rfl, rfl, rfl, rfl, rfl, rfl, rfl, rfl, rfl⟩

/-- Each lane's error cause register gets its code or No Error (60_exceptions.md R341). -/
theorem ec_trapPacket {outs : List LaneOut} {k : Nat} {o : LaneOut} (hk : k < 4) (ho : outs[k]? = some o) (s : State) :
    exnType ((trapPacket outs s).ec k) = excBits o.exc ∧ intField ((trapPacket outs s).ec k) = 0#2 := by
  match k, hk with
  | 0, _ => simp [trapPacket, State.ec, ho]
  | 1, _ => simp [trapPacket, State.ec, ho]
  | 2, _ => simp [trapPacket, State.ec, ho]
  | 3, _ => simp [trapPacket, State.ec, ho]

/-- The error address is the one the lane raised with, or stays (60_exceptions.md R342). -/
theorem newEa_eq (old : Word) (x : Option Exc) : newEa old x = (x.bind Exc.ea).getD old := by
  match x with
  | none => rfl
  | some ⟨_, none⟩ => rfl
  | some ⟨_, some _⟩ => rfl

theorem ea0_trapPacket {outs : List LaneOut} {o : LaneOut} (ho : outs[0]? = some o) (s : State) :
    (trapPacket outs s).ea0 = (o.exc.bind Exc.ea).getD s.ea0 := by
  obtain ⟨m, l, h⟩ := trapStores_eq outs s
  rw [trapPacket, ← trapStores, h, trapEntry_ea0, newEa_eq, ho]
  rfl

theorem ea1_trapPacket {outs : List LaneOut} {o : LaneOut} (ho : outs[1]? = some o) (s : State) :
    (trapPacket outs s).ea1 = (o.exc.bind Exc.ea).getD s.ea1 := by
  obtain ⟨m, l, h⟩ := trapStores_eq outs s
  rw [trapPacket, ← trapStores, h, trapEntry_ea1, newEa_eq, ho]
  rfl

/-- A trap changes the TLBs only by what the lanes' translations give the data TLB, and not the instruction cache, PhysMap
and IrqSource (20_memory.md R88; log 17). -/
theorem tlbs_trapPacket (slots : List Slot) (s : State) :
    let t := trapPacket (lanesOut slots s) s
    t.itlb = s.itlb ∧ (∀ e, e ∈ t.dtlb ↔ e ∈ s.dtlb ∨ translates slots s e) ∧ t.il1old = s.il1old ∧
      t.physMap = s.physMap ∧ t.irqs = s.irqs ∧ t.irqsThen = s.irqsThen := by
  obtain ⟨m, l, h⟩ := trapStores_eq (lanesOut slots s) s
  rw [trapPacket, ← trapStores, h]
  exact ⟨rfl, fun e => mem_fillTlb.trans (or_congr_right mem_fills_iff_translates), rfl, rfl, rfl, rfl⟩

/-- A trapping packet's lane records its code in its error cause register. -/
theorem records_of_raise {slots : List Slot} {s t : State} {k : Nat} {x : Slot} {e : Exc} (hlen : slots.length = 4)
    (h : runPacket slots s = .next t) (hk : slots[k]? = some x) (he : (runSlot (lanesFrom 0 slots) s k x).exc = some e) :
    trapped s t ∧ exnType (t.ec k) = e.code.bits := by
  obtain ⟨rfl, -⟩ := runPacket_of_raise h hk he
  have hk4 : k < 4 := hlen ▸ (List.getElem?_eq_some_iff.mp hk).1
  have hout : (lanesOut slots s)[k]? = some (runSlot (lanesFrom 0 slots) s k x) := by
    rw [lanesOut, getElem?_runSlots, hk, Nat.zero_add]
    rfl
  refine ⟨trapped_trapPacket _ s, ?_⟩
  rw [(ec_trapPacket hk4 hout s).1, he]
  rfl

/-! ## Slots that are illegal -/

/-- A misplaced instruction is not allowed in its slot (40_packet_and_operands.md R167). -/
theorem allowedIn_eq_false {i : Instr} {k : Nat}
    (h : (i.cls = .control ∧ 0 < k) ∨ (i.cls = .memory ∧ 1 < k) ∨ (i.cls = .alu ∧ i.long = true ∧ k = 3)) :
    i.allowedIn k = false := by
  unfold Instr.allowedIn
  obtain ⟨hcls, hk⟩ | ⟨hcls, hk⟩ | ⟨hcls, hlong, rfl⟩ := h
  · simp [hcls, Nat.pos_iff_ne_zero.mp hk]
  · simp [hcls, hk]
  · simp [hcls, hlong]

/-- Settles O12: such a slot raises without a look at its predicate, and the packet's trap records it. -/
theorem misplacedOrUndefinedSlotIsIllegal : Obligations.MisplacedOrUndefinedSlotIsIllegal := by
  intro slots s t k x hlen h hk hx
  refine records_of_raise (e := ⟨.illegalInstruction, none⟩) hlen h hk ?_
  obtain rfl | ⟨i, rfl, hi⟩ := hx
  · rfl
  · simp [runSlot, allowedIn_eq_false hi, LaneOut.raise, LaneOut.exc]

/-! ## Two executing writers of one destination -/

/-- The two instructions name one general register or one of P0 to P2. -/
def Instr.sharesDest (a b : Instr) : Prop :=
  (∃ r, a.gprDest = some r ∧ b.gprDest = some r) ∨ ∃ n, n ≠ 3 ∧ a.predDest = some n ∧ b.predDest = some n

theorem Instr.sharesDest.symm {a b : Instr} (h : Instr.sharesDest a b) : Instr.sharesDest b a :=
  h.imp (fun ⟨r, ha, hb⟩ => ⟨r, hb, ha⟩) fun ⟨n, hn, ha, hb⟩ => ⟨n, hn, hb, ha⟩

section
variable {slots : List Slot} {s : State} {j k : Nat} {a b : Instr} (hjk : j ≠ k) (ha : slots[j]? = some (.instr a))
  (hb : slots[k]? = some (.instr b)) (hallowa : a.allowedIn j = true) (hallowb : b.allowedIn k = true)
  (hholda : s.holds a.pred = true) (hholdb : s.holds b.pred = true)
include hjk ha hb hallowa hallowb hholda hholdb

theorem two_le_executingNamers {α : Type} [DecidableEq α] {dest : Instr → Option α} {d : α} (hda : dest a = some d)
    (hdb : dest b = some d) : 2 ≤ (executingNamers dest d (lanesFrom 0 slots) s).length := by
  rw [two_le_executingNamers_iff]
  obtain hlt | hlt := Nat.lt_or_gt_of_ne hjk
  · exact ⟨j, k, a, b, hlt, ha, hb, ⟨hda, hholda, hallowa⟩, hdb, hholdb, hallowb⟩
  · exact ⟨k, j, b, a, hlt, hb, ha, ⟨hdb, hholdb, hallowb⟩, hda, hholda, hallowa⟩

/-- An instruction that shares a destination with another that executes takes part in a duplicate
(40_packet_and_operands.md R168, first row). -/
theorem duplicateDest_of_sharesDest (h : Instr.sharesDest a b) : duplicateDest (lanesFrom 0 slots) s a = true := by
  unfold duplicateDest
  obtain ⟨r, hra, hrb⟩ | ⟨n, hn, hna, hnb⟩ := h
  · have := two_le_executingNamers hjk ha hb hallowa hallowb hholda hholdb hra hrb
    simp [hra, this]
  · have := two_le_executingNamers hjk ha hb hallowa hallowb hholda hholdb hna hnb
    simp [hna, hn, this]

end

/-- An executing lane with a duplicate destination raises: the mode comes first (40_packet_and_operands.md R170). -/
theorem exc_runSlot_of_duplicate {ls : List (Nat × Instr)} {s : State} {k : Nat} {i : Instr} (hallow : i.allowedIn k = true)
    (hhold : s.holds i.pred = true) (hdup : duplicateDest ls s i = true) : (runSlot ls s k (.instr i)).exc =
      some ⟨if i.kernelOnly = true ∧ s.mode = .user then .illegalInstruction else .duplicateDestination, none⟩ := by
  simp only [runSlot, hallow, guardLane, hhold, hdup, if_true, Bool.and_eq_true, beq_iff_eq]
  split <;> rfl

/-- Settles O13: each of the two lanes raises, and the packet's trap records its code. -/
theorem duplicateDestinationTrapsBothLanes : Obligations.DuplicateDestinationTrapsBothLanes := by
  intro slots s t j k a b hlen h hjk ha hb hallowa hallowb hholda hholdb code hshare
  have hcode : ∀ i : Instr, code i =
      ExcCode.bits (if i.kernelOnly = true ∧ s.mode = .user then .illegalInstruction else .duplicateDestination) := by
    intro i
    simp only [code]
    split <;> rfl
  have hdupa := duplicateDest_of_sharesDest hjk ha hb hallowa hallowb hholda hholdb hshare
  have hdupb := duplicateDest_of_sharesDest hjk.symm hb ha hallowb hallowa hholdb hholda (Instr.sharesDest.symm hshare)
  obtain ⟨htrap, hcodea⟩ := records_of_raise hlen h ha (exc_runSlot_of_duplicate hallowa hholda hdupa)
  obtain ⟨-, hcodeb⟩ := records_of_raise hlen h hb (exc_runSlot_of_duplicate hallowb hholdb hdupb)
  exact ⟨htrap, hcodea.trans (hcode a).symm, hcodeb.trans (hcode b).symm⟩

/-! ## The stores of a trapping packet -/

theorem survivingStore_sublist (tick k : Nat) (o : LaneOut) : (survivingStore tick k o).Sublist o.queue := by
  unfold survivingStore
  split
  · exact List.nil_sublist _
  · rename_i w ws hq
    cases Config.faultPacketStore tick k with
    | true => exact hq ▸ List.filter_sublist
    | false => exact List.nil_sublist _

theorem survivingStoresFrom_sublist (tick : Nat) (outs : List LaneOut) (k : Nat) :
    (survivingStoresFrom tick k outs).Sublist (outs.flatMap LaneOut.queue) := by
  induction outs generalizing k with
  | nil => exact .slnil
  | cons o outs ih => exact (survivingStore_sublist tick k o).append (ih (k + 1))

/-- The stores that a trap lets through are writes that the lanes queued, in their order. -/
theorem survivingStores_sublist (outs : List LaneOut) (s : State) :
    (survivingStores outs s).Sublist (outs.flatMap LaneOut.queue) := by
  unfold survivingStores
  split
  · exact List.nil_sublist _
  · exact survivingStoresFrom_sublist s.tick outs 0

section
variable {slots : List Slot} {s : State}

/-- A byte that no queued store covers is after the trap what it was. -/
theorem read_trapPacket {a : Nat} (h : ¬ storesTo slots s a) :
    Memory.read (trapPacket (lanesOut slots s) s).mem a = Memory.read s.mem a :=
  read_applyAll_of_not_covers (fun w hw hcov =>
    h (storesTo_iff.mpr ⟨w, (survivingStores_sublist (lanesOut slots s) s).mem hw, hcov⟩)) _

variable (hconf : anyConflict ((lanesOut slots s).filterMap LaneOut.access) = false)
include hconf

/-- A queued store is performed whole by the trap or not at all (40_packet_and_operands.md R169; log 13). -/
theorem store_trapPacket {pa n : Nat} {v : Word} (hq : .store pa n v ∈ (lanesOut slots s).flatMap LaneOut.queue) :
    let t := trapPacket (lanesOut slots s) s
    (∀ a, pa ≤ a → a < pa + n → Memory.read t.mem a = Memory.read s.mem a) ∨
      ∀ a, pa ≤ a → a < pa + n → Memory.read t.mem a =
        if s.isRam a then some ((v >>> (8 * (a - pa))).setWidth 8) else Memory.read s.mem a := by
  have hapart := storesApart_queue hconf
  have hsub := survivingStores_sublist (lanesOut slots s) s
  by_cases hw : .store pa n v ∈ survivingStores (lanesOut slots s) s
  · exact .inr fun a hlo hhi => read_applyAll_of_store (hapart.sublist hsub) hw hlo hhi _
  · have : Std.Symm Write.storesApart := ⟨fun _ _ => Write.storesApart.symm⟩
    refine .inl fun a hlo hhi => read_applyAll_of_not_covers (fun w hmem hcov => ?_) _
    have hne : w ≠ .store pa n v := fun e => hw (e ▸ hmem)
    exact hapart.forall (hsub.mem hmem) hq hne a hcov ⟨hlo, hhi⟩

/-- The L2 view may hold after the trap what it might before, and the bytes of RAM that the stores let through replaced. -/
theorem of_mem_l2old_trapPacket {o : OldByte} (h : o ∈ (trapPacket (lanesOut slots s) s).l2old) :
    o ∈ s.l2old ∨ (storesTo slots s o.1 ∧ s.isRam o.1 = true ∧ o.2 = Memory.read s.mem o.1) := by
  have hsub := survivingStores_sublist (lanesOut slots s) s
  refine (of_mem_l2old_applyAll ((storesApart_queue hconf).sublist hsub) h).imp_right ?_
  rintro ⟨⟨w, hw, hcov⟩, hrest⟩
  exact ⟨storesTo_iff.mpr ⟨w, hsub.mem hw, hcov⟩, hrest⟩

end

theorem mem_l2old_trapPacket {outs : List LaneOut} {s : State} {o : OldByte} (h : o ∈ s.l2old) :
    o ∈ (trapPacket outs s).l2old :=
  applyAll_preserves (fun u => o ∈ u.l2old)
    (fun _ hw _ hu => mem_l2old_apply_of_isStore (isStore_of_mem_survivingStores hw) hu) h

/-- Beside a SYSCALL or BREAK that raises no store is performed (46_system.md R301, R302, decision D23). -/
theorem memory_trapPacket_of_cancels {outs : List LaneOut} {s : State} {o : LaneOut} {e : Exc} (ho : o ∈ outs)
    (he : o.exc = some e) (hcode : e.code = .syscall ∨ e.code = .brk) :
    (trapPacket outs s).mem = s.mem ∧ (trapPacket outs s).l2old = s.l2old := by
  have hcancels : o.cancels = true := by obtain h | h := hcode <;> simp [LaneOut.cancels, he, h]
  have hnone : survivingStores outs s = [] := by
    rw [survivingStores, if_pos (List.any_eq_true.mpr ⟨o, ho, hcancels⟩)]
  rw [trapPacket, hnone]
  exact ⟨rfl, rfl⟩

/-- Settles O11, clause by clause from what the trap of a packet does. -/
theorem raisingPacketIsCancelledAndTraps : Obligations.RaisingPacketIsCancelledAndTraps := by
  intro slots s t hlen h out hraise
  obtain ⟨k, x, hk, hx⟩ := hraise
  obtain ⟨e, he⟩ := Option.ne_none_iff_exists'.mp hx
  obtain ⟨rfl, hconf⟩ := runPacket_of_raise h hk he
  have hout : ∀ {j : Nat} {y : Slot}, slots[j]? = some y → (lanesOut slots s)[j]? = some (out j y) := fun {j y} hy => by
    rw [lanesOut, getElem?_runSlots, hy, Nat.zero_add]
    rfl
  have hlt : ∀ {j : Nat} {y : Slot}, slots[j]? = some y → j < 4 := fun hy => hlen ▸ (List.getElem?_eq_some_iff.mp hy).1
  refine ⟨trapped_trapPacket _ s, fun j y hy => ec_trapPacket (hlt hy) (hout hy) s, fun y hy => ea0_trapPacket (hout hy) s,
    fun y hy => ea1_trapPacket (hout hy) s, fun a => read_trapPacket, fun j y pa n v hy hw => ?_, ?_, tlbs_trapPacket slots s,
    fun o => mem_l2old_trapPacket, fun o => of_mem_l2old_trapPacket hconf⟩
  · exact store_trapPacket hconf (List.mem_flatMap.mpr ⟨_, List.mem_of_getElem? (hout hy), hw⟩)
  · rintro ⟨j, y, e', hy, he', hcode⟩
    exact memory_trapPacket_of_cancels (List.mem_of_getElem? (hout hy)) he' hcode

end Sys2Proof.Machine
end

section
/-! The commit of a packet: all lanes read the state before it, and every write they queue shows after it
(40_packet_and_operands.md R163, R165, R166, R173): O7. -/
namespace Sys2Proof.Machine

/-! ## A write shows right after it is carried out -/

theorem State.readCop_writeCop_same (s : State) (c : Cop) (v : Word) :
    (s.writeCop c v).readCop c = if c = .pflags then v &&& 3#32 else v := by
  cases c with
  | pflags =>
    have hbit : ∀ b : Bool, (bif b then 1#1 else 0#1) = BitVec.ofBool b := by decide
    have hmask : (3#32) = (0#30 ++ BitVec.ofBool true ++ BitVec.ofBool true : Word) := rfl
    change (0#30 ++ (bif v.getLsbD 1 then 1#1 else 0#1) ++ (bif v.getLsbD 0 then 1#1 else 0#1) : Word) = v &&& 3#32
    rw [hbit, hbit, hmask]
    refine BitVec.eq_of_getLsbD_eq fun i _ => ?_
    simp only [BitVec.getLsbD_append, BitVec.getLsbD_and, BitVec.getLsbD_ofBool, BitVec.getLsbD_zero]
    match i with
    | 0 => simp
    | 1 => simp
    | i + 2 => simp
  | _ => rfl

/-- A write shows in the state after it; of FLUSH DATA see doneIn_flushData. -/
theorem doneIn_apply_self {s u : State} (hram : ∀ q, u.isRam q = s.isRam q) {w : Write} (hw : ∀ pa, w ≠ .flushData pa) :
    Write.doneIn s (u.apply w) w := by
  cases w with
  | gpr r v => exact State.reg_setReg_same u r v
  | pred n b =>
    by_cases hn : n = 3
    · exact .inl hn
    · exact .inr (State.predReg_setPredReg_same u n b hn)
  | cop c v => exact State.readCop_writeCop_same u c v
  | store pa n v =>
    intro q hlo hhi hq
    rw [State.apply, read_storeBytes, if_pos ⟨hlo, hhi, (hram q).trans hq⟩]
  | flushData pa => exact absurd rfl (hw pa)
  | flushInst pa => exact fun o ho => by simpa using (List.mem_filter.mp ho).2
  | flushDtlb va => exact fun e he => (mem_dropPage.mp he).2
  | flushItlb va => exact fun e he => (mem_dropPage.mp he).2
  | ovf v => rfl
  | link b => rfl
  | mode m => rfl
  | ie b => rfl
  | pc v => rfl

/-! ## A write shows until another undoes it -/

theorem apply_ie {w : Write} (h : ∀ b, w ≠ .ie b) (hc : ∀ v, w ≠ .cop .pflags v) (s : State) : (s.apply w).ie = s.ie := by
  cases w with
  | ie b => exact absurd rfl (h b)
  | cop c v =>
    cases c with
    | pflags => exact absurd rfl (hc v)
    | _ => rfl
  | pred n b => exact State.setPredReg_ie s n b
  | store pa n v => exact storeBytes_keeps State.ie (fun _ _ _ => rfl) s pa n v
  | _ => rfl

/-- No write adds to the data TLB: entries are taken up at translations only (20_memory.md R88). -/
theorem mem_dtlb_of_apply {w : Write} {s : State} {e : TlbEntry} (h : e ∈ (s.apply w).dtlb) : e ∈ s.dtlb := by
  by_cases hf : ∃ va, w = .flushDtlb va
  · obtain ⟨va, rfl⟩ := hf
    exact (mem_dropPage.mp h).1
  · by_cases hc : ∃ v, w = .cop .ptb v
    · obtain ⟨v, rfl⟩ := hc
      exact (mem_dropNonGlobal.mp h).1
    · rwa [apply_dtlb (fun va e => hf ⟨va, e⟩) fun v e => hc ⟨v, e⟩] at h

/-- No write adds to the instruction TLB. -/
theorem mem_itlb_of_apply {w : Write} {s : State} {e : TlbEntry} (h : e ∈ (s.apply w).itlb) : e ∈ s.itlb := by
  by_cases hf : ∃ va, w = .flushItlb va
  · obtain ⟨va, rfl⟩ := hf
    exact (mem_dropPage.mp h).1
  · by_cases hc : ∃ v, w = .cop .ptb v
    · obtain ⟨v, rfl⟩ := hc
      exact (mem_dropNonGlobal.mp h).1
    · rwa [apply_itlb (fun va e => hf ⟨va, e⟩) fun v e => hc ⟨v, e⟩] at h

/-- Only FLUSH DATA adds to what the instruction cache may still hold (log 16). -/
theorem mem_il1old_of_apply {w : Write} (hw : ∀ pa, w ≠ .flushData pa) {s : State} {o : OldByte}
    (h : o ∈ (s.apply w).il1old) : o ∈ s.il1old := by
  by_cases hf : ∃ pa, w = .flushInst pa
  · obtain ⟨pa, rfl⟩ := hf
    exact (List.mem_filter.mp h).1
  · rwa [apply_il1old hw fun pa e => hf ⟨pa, e⟩] at h

/-- What a write did still shows after another that does not undo it. -/
theorem doneIn_apply_of_keptBy {s u : State} {w w' : Write} (hw : ∀ pa, w ≠ .flushData pa) (hk : w.keptBy w')
    (h : Write.doneIn s u w) : Write.doneIn s (u.apply w') w := by
  cases w with
  | gpr r v => exact (apply_reg hk u).trans h
  | pred n b => exact h.imp_right (apply_predReg hk u).trans
  | ovf v => exact (apply_ovf hk u).trans h
  | link b =>
    by_cases hl : ∃ c, w' = .link c
    · obtain ⟨c, rfl⟩ := hl
      have hk : Write.link c ≠ .link (!b) := hk
      change c = b
      cases c <;> cases b <;> trivial
    · exact (apply_link (fun c e => hl ⟨c, e⟩) u).trans h
  | cop c v => exact (apply_readCop hk.1 (fun _ => hk.2) u).trans h
  | mode m => exact (apply_mode hk u).trans h
  | ie b => exact (apply_ie hk.1 hk.2 u).trans h
  | pc v => exact (apply_pc hk u).trans h
  | store pa n v =>
    intro q hlo hhi hq
    rw [read_apply_of_not_covers (hk q ⟨hlo, hhi⟩)]
    exact h q hlo hhi hq
  | flushData pa => exact absurd rfl (hw pa)
  | flushInst pa => exact fun o ho => h o (mem_il1old_of_apply hk ho)
  | flushDtlb va => exact fun e he => h e (mem_dtlb_of_apply he)
  | flushItlb va => exact fun e he => h e (mem_itlb_of_apply he)

/-- Every write of a list of which none undoes an earlier one shows in the end; of FLUSH DATA see doneIn_flushData. -/
theorem doneIn_applyAll {ws : List Write} (hkept : ws.Pairwise Write.keptBy) {s u : State}
    (hram : ∀ q, u.isRam q = s.isRam q) {w : Write} (hw : w ∈ ws) (hflush : ∀ pa, w ≠ .flushData pa) :
    Write.doneIn s (u.applyAll ws) w := by
  induction ws generalizing u with
  | nil => cases hw
  | cons w' ws ih =>
    obtain ⟨hhead, htail⟩ := List.pairwise_cons.mp hkept
    change Write.doneIn s ((u.apply w').applyAll ws) w
    obtain rfl | hw := List.mem_cons.mp hw
    · exact applyAll_preserves (fun v => Write.doneIn s v w)
        (fun x hx v hv => doneIn_apply_of_keptBy hflush (hhead x hx) hv) (doneIn_apply_self hram hflush)
    · exact ih htail (fun q => (apply_isRam w' u q).trans (hram q)) hw

/-- After a list of writes with a FLUSH DATA and stores that do not meet, an older byte of the flushed line in the L2 view is
one that a store of the list replaced: what memory held before (log 27). -/
theorem doneIn_flushData {ws : List Write} (hapart : ws.Pairwise Write.storesApart) {s u : State}
    (hmem : u.mem = s.mem) {pa : Nat} (hw : .flushData pa ∈ ws) :
    Write.doneIn s (u.applyAll ws) (.flushData pa) := by
  obtain ⟨before, after, rfl⟩ := List.append_of_mem hw
  obtain ⟨-, hafter, hcross⟩ := List.pairwise_append.mp hapart
  intro o ho hline
  have hsplit : u.applyAll (before ++ .flushData pa :: after) = ((u.applyAll before).flushData pa).applyAll after := by
    rw [State.applyAll, List.foldl_append]
    rfl
  rw [hsplit] at ho
  obtain ho | ⟨⟨w, hwmem, hcov⟩, -, hread⟩ := of_mem_l2old_applyAll (List.pairwise_cons.mp hafter).2 ho
  · exact absurd ho (not_mem_l2old_flushData hline o.2)
  · have hbefore : Memory.read (u.applyAll before).mem o.1 = Memory.read u.mem o.1 :=
      read_applyAll_of_not_covers (fun x hx hxcov => hcross x hx w (List.mem_cons_of_mem _ hwmem) _ hxcov hcov) u
    exact hread.trans (hbefore.trans (by rw [hmem]))

/-! ## The writes of different slots -/

/-- A write that a slot queues comes from an instruction that is allowed there, executes, and may queue it. -/
theorem exists_instr_of_mem_queue {ls : List (Nat × Instr)} {s : State} {k : Nat} {x : Slot} {w : Write}
    (h : w ∈ (runSlot ls s k x).queue) :
    ∃ i, x = .instr i ∧ i.allowedIn k = true ∧ s.holds i.pred = true ∧ Form.mayQueue s i.form w := by
  obtain hr | ⟨c, hr⟩ | ⟨i, rfl, hp, hr⟩ := runSlot_cases ls s k x
  · rw [hr] at h; cases h
  · rw [hr] at h; cases h
  · refine ⟨i, rfl, ?_, hp, ?_⟩
    · by_contra hno
      rw [runSlot, if_neg hno] at h
      cases h
    · rw [hr, laneOf_eq_lane] at h
      exact mayQueue_of_mem_queue h

/-- The write is one that Control instructions alone queue. -/
def Write.ofControl : Write → Bool
  | .gpr .. => false
  | .pred .. => false
  | .link _ => false
  | .store .. => false
  | _ => true

/-- Only Control instructions queue such a write. -/
theorem cls_of_ofControl {s : State} {f : Form} {w : Write} (hw : w.ofControl = true) (h : Form.mayQueue s f w) :
    f.cls = .control := by
  cases w with
  | ovf v =>
    cases f with
    | ctl c p => rfl
    | _ => cases h
  | cop c v => obtain ⟨n, rs, p, -, rfl⟩ := h; rfl
  | mode m => obtain ⟨p, rfl⟩ := h; rfl
  | ie b => obtain ⟨p, rfl⟩ := h; rfl
  | pc v =>
    obtain ⟨h, -⟩ := h
    cases f with
    | ctl c p => rfl
    | branch link p g => rfl
    | _ => cases h
  | flushData pa => obtain ⟨rs, p, rfl⟩ := h; rfl
  | flushInst pa => obtain ⟨rs, p, rfl⟩ := h; rfl
  | flushDtlb va => obtain ⟨rs, p, rfl⟩ := h; rfl
  | flushItlb va => obtain ⟨rs, p, rfl⟩ := h; rfl
  | _ => cases hw

/-- Control instructions stand in slot 0 only (40_packet_and_operands.md R162). -/
theorem ofControl_eq_false {s : State} {k : Nat} {i : Instr} {w : Write} (hk : 0 < k) (hallow : i.allowedIn k = true)
    (h : Form.mayQueue s i.form w) : w.ofControl = false := by
  by_contra hw
  have hcls : i.cls = .control := cls_of_ofControl (Bool.of_not_eq_false hw) h
  rw [allowedIn_eq_false (.inl ⟨hcls, hk⟩)] at hallow
  cases hallow

section
variable {slots : List Slot} {s t : State} (h : runPacket slots s = .next t) (hr : raisesNothing slots s)
include h

/-- In a packet with a next state no instruction that executes sets the link bit beside one that clears it
(40_packet_and_operands.md R168, U2). -/
theorem not_linkConflict_of_next {a b : Instr} (ha : executes slots s a) (hb : executes slots s b)
    (hset : Form.setsLink a.form = true) : Form.clearsLink b.form = false := by
  by_contra hclear
  have hconf := linkConflict_iff.mpr ⟨⟨a, ha, hset⟩, b, hb, Bool.of_not_eq_false hclear⟩
  obtain h' | h' := runPacket_of_linkConflict hconf <;> rw [h'] at h <;> cases h

/-- In a packet with a next state no two instructions name P3 (40_packet_and_operands.md R168, U1). -/
theorem not_namedTwice_p3_of_next : ¬ namedTwice Instr.predDest 3 slots := by
  intro htwice
  obtain ⟨j, -, a, -, -, ha, -, hda, -⟩ := id htwice
  rw [runPacket_of_undecidedDest ha (undecidedDest_of_p3 hda (two_le_namers_iff.mpr htwice))] at h
  cases h

include hr

/-- Two slots of a packet no lane of which raises do not undo each other's writes. -/
theorem keptBy_of_slots {j k : Nat} {x y : Slot} {w w' : Write} (hjk : j < k) (hx : slots[j]? = some x)
    (hy : slots[k]? = some y) (hw : w ∈ (runSlot (lanesFrom 0 slots) s j x).queue)
    (hw' : w' ∈ (runSlot (lanesFrom 0 slots) s k y).queue) (hapart : w.storesApart w') : w.keptBy w' := by
  obtain ⟨a, rfl, hallowa, hholda, hqa⟩ := exists_instr_of_mem_queue hw
  obtain ⟨b, rfl, hallowb, hholdb, hqb⟩ := exists_instr_of_mem_queue hw'
  have hcontrol : w'.ofControl = false := ofControl_eq_false (Nat.zero_lt_of_lt hjk) hallowb hqb
  have hno : ∀ x : Write, x.ofControl = true → w' ≠ x := fun x hx e =>
    absurd (hcontrol.symm.trans (e ▸ hx)) Bool.false_ne_true
  have hdistinct : ¬ Instr.sharesDest a b := fun hshare => by
    have hdup := duplicateDest_of_sharesDest (Nat.ne_of_lt hjk) hx hy hallowa hallowb hholda hholdb hshare
    have hexc := hr j _ hx
    rw [exc_runSlot_of_duplicate hallowa hholda hdup] at hexc
    cases hexc
  have hexeca : executes slots s a := ⟨List.mem_of_getElem? hx, hholda⟩
  have hexecb : executes slots s b := ⟨List.mem_of_getElem? hy, hholdb⟩
  cases w with
  | gpr r v =>
    rintro v' rfl
    exact hdistinct (.inl ⟨r, hqa, hqb⟩)
  | pred n c =>
    rintro c' rfl
    by_cases hn : n = 3
    · subst hn
      exact not_namedTwice_p3_of_next h ⟨j, k, a, b, hjk, hx, hy, hqa, hqb⟩
    · exact hdistinct (.inr ⟨n, hn, hqa, hqb⟩)
  | link c =>
    rintro rfl
    cases c with
    | true =>
      have hno := not_linkConflict_of_next h hexeca hexecb hqa
      exact absurd (hno.symm.trans hqb) Bool.false_ne_true
    | false =>
      have hno := not_linkConflict_of_next h hexecb hexeca hqb
      exact absurd (hno.symm.trans hqa) Bool.false_ne_true
  | store pa n v => exact hapart
  | ovf v => exact fun _ => hno _ rfl
  | cop c v => exact ⟨fun _ => hno _ rfl, fun _ => hno _ rfl⟩
  | mode m => exact fun _ => hno _ rfl
  | ie c => exact ⟨fun _ => hno _ rfl, fun _ => hno _ rfl⟩
  | pc v => exact fun _ => hno _ rfl
  | flushInst pa => exact fun _ => hno _ rfl
  | flushData pa => trivial
  | flushDtlb va => trivial
  | flushItlb va => trivial

/-- Of the writes of a packet no lane of which raises none undoes another (40_packet_and_operands.md R166). -/
theorem keptBy_queue (hapart : ((lanesOut slots s).flatMap LaneOut.queue).Pairwise Write.storesApart) :
    ((lanesOut slots s).flatMap LaneOut.queue).Pairwise Write.keptBy := by
  refine List.pairwise_flatMap.mpr ⟨fun o ho => ?_, List.pairwise_iff_getElem.mpr fun j k hj hk hjk w hw w' hw' => ?_⟩
  · obtain ⟨k, x, -, rfl⟩ := mem_lanesOut.mp ho
    exact keptBy_runSlot _ s k x
  · have hcross := List.pairwise_iff_getElem.mp (List.pairwise_flatMap.mp hapart).2 j k hj hk hjk w hw w' hw'
    have hslot : ∀ {m : Nat} (hm : m < (lanesOut slots s).length), ∃ x, slots[m]? = some x ∧
        (lanesOut slots s)[m] = runSlot (lanesFrom 0 slots) s m x := fun {m} hm => by
      have hget : (lanesOut slots s)[m]? = slots[m]?.map (runSlot (lanesFrom 0 slots) s m) := by
        rw [lanesOut, getElem?_runSlots, Nat.zero_add]
      rw [List.getElem?_eq_getElem hm] at hget
      obtain ⟨x, hx, he⟩ := Option.map_eq_some_iff.mp hget.symm
      exact ⟨x, hx, he.symm⟩
    obtain ⟨x, hx, hox⟩ := hslot hj
    obtain ⟨y, hy, hoy⟩ := hslot hk
    rw [hox] at hw
    rw [hoy] at hw'
    exact keptBy_of_slots h hr hjk hx hy hw hw' hcross

/-- Every write that a packet queues shows after it, if no lane of it raises (40_packet_and_operands.md R166). -/
theorem doneIn_of_mem_queue {w : Write} (hw : w ∈ (lanesOut slots s).flatMap LaneOut.queue) : Write.doneIn s t w := by
  have ht := runPacket_next_of_raisesNothing h hr
  obtain ⟨-, hconf, -⟩ := finish_cases (runPacket_cases h).2
  have hapart := storesApart_queue hconf
  rw [ht, commit]
  by_cases hflush : ∃ pa, w = .flushData pa
  · obtain ⟨pa, rfl⟩ := hflush
    refine doneIn_flushData hapart ?_ hw
    rfl
  · exact doneIn_applyAll (keptBy_queue h hr hapart) (fun _ => rfl) hw fun pa e => hflush ⟨pa, e⟩

end

/-! ## What a slot that raises nothing yields -/

/-- A slot that holds an instruction and does not raise yields what the instruction yields on the state before the packet,
or nothing if its predicate is false (40_packet_and_operands.md R163, R165). -/
theorem runSlot_of_exc_eq_none {ls : List (Nat × Instr)} {s : State} {k : Nat} {i : Instr}
    (h : (runSlot ls s k (.instr i)).exc = none) :
    runSlot ls s k (.instr i) = if s.holds i.pred then laneOf i k s else .idle := by
  simp only [runSlot, guardLane] at h ⊢
  split at h
  · rename_i hallow
    rw [if_pos hallow]
    split at h
    · rename_i hp
      rw [if_pos hp, if_pos hp]
      split at h
      · cases h
      · rename_i hmode
        rw [if_neg hmode]
        split at h
        · cases h
        · rename_i hdup
          rw [if_neg hdup]
    · rename_i hp
      rw [if_neg hp, if_neg hp]
  · cases h

/-! ## An example -/

/-- An immediate branch offset counts packets (44_branch.md R271). -/
theorem signExtend_append_zero (off : BitVec 25) : (off ++ 0#4 : BitVec 29).signExtend 32 = BitVec.ofInt 32 (16 * off.toInt) := by
  rw [BitVec.signExtend, BitVec.toInt_append_zero]
  rfl

/-- The target of an immediate branch (44_branch.md R271). -/
theorem target_imm (s : State) (off : BitVec 25) :
    Target.addr s (.imm off) = BitVec.ofInt 32 (s.pc.toInt + 16 * off.toInt) := by
  rw [BitVec.ofInt_add, BitVec.ofInt_toInt, ← signExtend_append_zero]
  rfl

/-- An instruction that is allowed in its slot, executes, may run in both modes and writes nothing twice yields what it
yields. -/
theorem runSlot_eq_laneOf {slots : List Slot} {s : State} {k : Nat} {i : Instr} (hdistinct : namesDistinct slots)
    (hallow : i.allowedIn k = true) (hmode : i.kernelOnly = false) (hp : s.holds i.pred = true) :
    runSlot (lanesFrom 0 slots) s k (.instr i) = laneOf i k s := by
  simp [runSlot, hallow, guardLane, hp, hmode, duplicateDest_eq_false hdistinct]

/-- Two instructions that name different general registers, and the first no predicate register, share no destination. -/
theorem disjointDest_of_gprDest {a b : Instr} {r q : Reg} (ha : a.gprDest = some r) (hb : b.gprDest = some q) (hne : r ≠ q)
    (hp : a.predDest = none) : a.disjointDest b = true := by
  simp [Instr.disjointDest, ha, hb, hne, hp]

/-- A BL beside an ADD, a SUB and an XOR with four different destinations: no lane sees another's result, and R31 gets the
address of the packet (44_branch.md R272, decision D42). -/
theorem runPacket_bl_add_sub_xor {s : State} {p0 p1 p2 p3 : Pred} {d1 d2 d3 : Reg} (hp0 : s.holds p0 = true)
    (hp1 : s.holds p1 = true) (hp2 : s.holds p2 = true) (hp3 : s.holds p3 = true) (h1 : d1 ≠ 31) (h2 : d2 ≠ 31)
    (h3 : d3 ≠ 31) (h12 : d1 ≠ d2) (h13 : d1 ≠ d3) (h23 : d2 ≠ d3) (off : BitVec 25) (a1 a2 a3 b1 b2 : Reg)
    (ty1 ty2 : ShiftType) (n1 n2 : BitVec 5) (imm : BitVec 10) (rot : BitVec 4) :
    runPacket [.instr (.blImm p0 off), .instr (.addReg p1 d1 a1 b1 ty1 n1), .instr (.subReg p2 d2 a2 b2 ty2 n2),
        .instr (.xorShort p3 d3 a3 imm rot)] s =
      .next { s with
        regs := (((s.regs.set 31 s.pc).set d1 (s.reg a1 + shift (s.reg b1) ty1 n1.toNat)).set d2
          (s.reg a2 - shift (s.reg b2) ty2 n2.toNat)).set d3 (s.reg a3 ^^^ shortImm10 imm rot)
        pc := Target.addr s (.imm off)
        tick := s.tick + 1 } := by
  have hdistinct : namesDistinct [.instr (.blImm p0 off), .instr (.addReg p1 d1 a1 b1 ty1 n1),
      .instr (.subReg p2 d2 a2 b2 ty2 n2), .instr (.xorShort p3 d3 a3 imm rot)] := by
    apply namesDistinct_of_destsDistinct
    change destsDistinct [some (.blImm p0 off), some (.addReg p1 d1 a1 b1 ty1 n1), some (.subReg p2 d2 a2 b2 ty2 n2),
      some (.xorShort p3 d3 a3 imm rot)] = true
    simp only [destsDistinct, List.all_cons, List.all_nil, Bool.and_true,
      disjointDest_of_gprDest (a := .blImm p0 off) (b := .addReg p1 d1 a1 b1 ty1 n1) rfl rfl h1.symm rfl,
      disjointDest_of_gprDest (a := .blImm p0 off) (b := .subReg p2 d2 a2 b2 ty2 n2) rfl rfl h2.symm rfl,
      disjointDest_of_gprDest (a := .blImm p0 off) (b := .xorShort p3 d3 a3 imm rot) rfl rfl h3.symm rfl,
      disjointDest_of_gprDest (a := .addReg p1 d1 a1 b1 ty1 n1) (b := .subReg p2 d2 a2 b2 ty2 n2) rfl rfl h12 rfl,
      disjointDest_of_gprDest (a := .addReg p1 d1 a1 b1 ty1 n1) (b := .xorShort p3 d3 a3 imm rot) rfl rfl h13 rfl,
      disjointDest_of_gprDest (a := .subReg p2 d2 a2 b2 ty2 n2) (b := .xorShort p3 d3 a3 imm rot) rfl rfl h23 rfl]
  rw [runPacket, packetRefusal_eq_none hdistinct rfl]
  simp only [runSlots, Nat.zero_add]
  rw [runSlot_eq_laneOf hdistinct (i := .blImm p0 off) rfl rfl hp0,
    runSlot_eq_laneOf hdistinct (i := .addReg p1 d1 a1 b1 ty1 n1) rfl rfl hp1,
    runSlot_eq_laneOf hdistinct (i := .subReg p2 d2 a2 b2 ty2 n2) rfl rfl hp2,
    runSlot_eq_laneOf hdistinct (i := .xorShort p3 d3 a3 imm rot) rfl rfl hp3]
  rfl

/-- Settles O7: keptBy_queue for the writes of any packet; the example by runPacket_bl_add_sub_xor. -/
theorem lanesReadTheOldStateAndCommitTogether : Obligations.LanesReadTheOldStateAndCommitTogether := by
  refine ⟨fun slots s t _ h hr => ⟨fun k i hk => runSlot_of_exc_eq_none (hr k _ hk), fun k x w hx hw => ?_⟩,
    fun s p0 p1 p2 p3 off d1 d2 d3 a1 a2 a3 b1 b2 ty1 ty2 n1 n2 imm rot hp0 hp1 hp2 hp3 h1 h2 h3 h12 h13 h23 => ?_⟩
  · exact doneIn_of_mem_queue h hr (List.mem_flatMap.mpr ⟨_, mem_lanesOut.mpr ⟨k, x, hx, rfl⟩, hw⟩)
  · rw [← target_imm]
    exact runPacket_bl_add_sub_xor hp0 hp1 hp2 hp3 h1 h2 h3 h12 h13 h23 off a1 a2 a3 b1 b2 ty1 ty2 n1 n2 imm rot

end Sys2Proof.Machine
end

section
/-! The ALU instructions that write a general register (41_alu.md R200 to R211): O4, O31, O32, O33, O34, from the lane of each
family form. -/
namespace Sys2Proof.Machine

/-! ## An instruction alone in its packet, by its family form -/

/-- A family form is given by its instruction. -/
theorem form_instr (f : Form) : f.instr.form = f := by
  cases f with
  | alu2 o p rd rs b => cases o <;> cases b <;> rfl
  | alu1 o p rd b => cases o <;> cases b <;> rfl
  | cmp o p pd rs b => cases o <;> cases b <;> rfl
  | load o p rd rs off => cases o <;> rfl
  | store o p rt rs off => cases o <;> rfl
  | branch link p t => cases link <;> cases t <;> rfl
  | ctl c p => cases c <;> rfl

/-- An instruction alone in its packet whose lane queues writes and touches no memory: they are carried out after the advance
of the pc if the predicate holds (40_packet_and_operands.md R165, R166). -/
theorem exec_of_lane_writes {f : Form} {s : State} {ws : List Write} (hm : f.kernelOnly = true → s.mode = .kernel)
    (h : Form.lane 0 s f = .writes ws) :
    exec f.instr s = .next (if s.holds f.pred then s.advance.applyAll ws else s.advance) := by
  have hpred : f.instr.pred = f.pred := congrArg Form.pred (form_instr f)
  have hko : f.instr.kernelOnly = f.kernelOnly := congrArg Form.kernelOnly (form_instr f)
  have hlane : laneOf f.instr 0 s = .writes ws := by rw [laneOf_eq_lane, form_instr, h]
  split
  case isTrue hp => exact exec_done (hpred ▸ hp) (hko ▸ hm) hlane
  case isFalse hp =>
    obtain ⟨-, -, hfalse⟩ := falsePredicateDoesNothing
    exact hfalse _ s (hpred ▸ Bool.eq_false_of_not_eq_true hp)

/-- An instruction alone in its packet that writes one general register. -/
theorem exec_of_lane_gpr {f : Form} {s : State} {rd : Reg} {v : Word} (hm : f.kernelOnly = true → s.mode = .kernel)
    (h : Form.lane 0 s f = .writes [.gpr rd v]) : exec f.instr s = .next (s.afterGpr f.pred rd v) :=
  exec_of_lane_writes hm h

section Alu
variable (s : State) (p : Pred) (rd rs : Reg)

/-- A two-operand ALU instruction of any operation and format (41_alu.md R200 to R206). -/
theorem exec_alu2 (o : Alu2Op) (b : Op2) :
    exec (Form.instr (.alu2 o p rd rs b)) s = .next (s.afterGpr p rd (Alu2Op.result o (s.reg rs) (Op2.value s b))) :=
  exec_of_lane_gpr (f := .alu2 o p rd rs b) nofun rfl

/-- A one-operand ALU instruction of any operation and format (41_alu.md R207 to R211). -/
theorem exec_alu1 (o : Alu1Op) (b : Op1) :
    exec (Form.instr (.alu1 o p rd b)) s = .next (s.afterGpr p rd (Alu1Op.result o (Op1.value s b))) :=
  exec_of_lane_gpr (f := .alu1 o p rd b) nofun rfl

/-! ## ADD, SUB and RSB -/

/-- The difference of two words is that of their numbers, modulo 2^32. -/
theorem sub_eq_ofInt_toNat (a b : Word) : a - b = BitVec.ofInt 32 (a.toNat - b.toNat) := by
  simp [Int.sub_eq_add_neg, BitVec.ofInt_add, BitVec.ofInt_neg, BitVec.sub_eq_add_neg]

theorem exec_add (b : Op2) : exec (Form.instr (.alu2 .addOp p rd rs b)) s =
    .next (s.afterGpr p rd (BitVec.ofNat 32 ((s.reg rs).toNat + (Op2.value s b).toNat))) := by
  rw [← BitVec.add_def]
  exact exec_alu2 s p rd rs .addOp b

theorem exec_sub (b : Op2) : exec (Form.instr (.alu2 .subOp p rd rs b)) s =
    .next (s.afterGpr p rd (BitVec.ofInt 32 ((s.reg rs).toNat - (Op2.value s b).toNat))) := by
  rw [← sub_eq_ofInt_toNat]
  exact exec_alu2 s p rd rs .subOp b

theorem exec_rsb (b : Op2) : exec (Form.instr (.alu2 .rsbOp p rd rs b)) s =
    .next (s.afterGpr p rd (BitVec.ofInt 32 ((Op2.value s b).toNat - (s.reg rs).toNat))) := by
  rw [← sub_eq_ofInt_toNat]
  exact exec_alu2 s p rd rs .rsbOp b

/-! ## SXB and SXH -/

/-- The low `n + 1` bits of a word as a signed number. -/
theorem signExtend_setWidth_succ (v : Word) (n : Nat) : (v.setWidth (n + 1)).signExtend 32 =
    BitVec.ofInt 32 (if v.toNat % 2 ^ (n + 1) < 2 ^ n then (v.toNat % 2 ^ (n + 1) : Nat)
      else (v.toNat % 2 ^ (n + 1) : Nat) - (2 ^ (n + 1) : Nat)) := by
  have hhalf : 2 * (v.toNat % 2 ^ (n + 1)) < 2 ^ (n + 1) ↔ v.toNat % 2 ^ (n + 1) < 2 ^ n := by
    rw [Nat.pow_succ']
    omega
  rw [BitVec.signExtend, BitVec.toInt_eq_toNat_cond, BitVec.toNat_setWidth]
  simp only [hhalf]

end Alu

/-! ## The statements -/

/-- Settles O31, by the operation and its format: word addition and subtraction are those of the numbers modulo 2^32. -/
theorem addSubRsbResults : Obligations.AddSubRsbResults := by
  intro s p rd rs rt imm rot ty amt w
  have hadd := exec_add s p rd rs
  have hsub := exec_sub s p rd rs
  have hrsb := exec_rsb s p rd rs
  exact ⟨hadd (.short imm rot), hadd (.reg rt ty amt), hadd (.long w),
    hsub (.short imm rot), hsub (.reg rt ty amt), hsub (.long w),
    hrsb (.short imm rot), hrsb (.reg rt ty amt), hrsb (.long w)⟩

/-- Settles O34, by the operation and its format: the low 8 or 16 bits, sign-extended, are a signed number. -/
theorem signExtensionResults : Obligations.SignExtensionResults := by
  intro s p rd rs rt imm rot ty amt w sx8 sx16 b1 b2 b3
  have hsx8 (v : Word) : Alu1Op.result .sxbOp v = sx8 v := signExtend_setWidth_succ v 7
  have hsx16 (v : Word) : Alu1Op.result .sxhOp v = sx16 v := signExtend_setWidth_succ v 15
  have hsxb (b : Op1) : exec (Form.instr (.alu1 .sxbOp p rd b)) s = .next (s.afterGpr p rd (sx8 (Op1.value s b))) :=
    hsx8 _ ▸ exec_alu1 s p rd .sxbOp b
  have hsxh (b : Op1) : exec (Form.instr (.alu1 .sxhOp p rd b)) s = .next (s.afterGpr p rd (sx16 (Op1.value s b))) :=
    hsx16 _ ▸ exec_alu1 s p rd .sxhOp b
  exact ⟨hsxb (.short imm rot), hsxb (.reg rt ty amt), hsxb (.regsh rt ty rs), hsxb (.long w),
    hsxh (.short imm rot), hsxh (.reg rt ty amt), hsxh (.regsh rt ty rs), hsxh (.long w)⟩

/-- Settles O4: each word by its row of the opcode table. -/
theorem sampleWordsDecode : Obligations.SampleWordsDecode :=
  ⟨alu2_row .short .addOp rfl, alu2_row .register .addOp rfl, alu1_row .long .movOp rfl, load_row .lwOp rfl,
    store_row .swOp rfl, branchImm_row false rfl, control_row decodeControl_mtc rfl⟩

/-- Settles O32, by the operation and its format. -/
theorem bitwiseResults : Obligations.BitwiseResults := by
  intro s p rd rs rt imm rot ty amt w
  have halu := exec_alu2 s p rd rs
  exact ⟨halu .andOp (.short imm rot), halu .andOp (.reg rt ty amt), halu .andOp (.long w),
    halu .orOp (.short imm rot), halu .orOp (.reg rt ty amt), halu .orOp (.long w),
    halu .norOp (.short imm rot), halu .norOp (.reg rt ty amt), halu .norOp (.long w),
    halu .xorOp (.short imm rot), halu .xorOp (.reg rt ty amt), halu .xorOp (.long w)⟩

/-- Settles O33, by the operation and its format. -/
theorem moveResults : Obligations.MoveResults := by
  intro s p rd rs rt imm rot ty amt w
  have halu := exec_alu1 s p rd
  exact ⟨halu .movOp (.short imm rot), halu .movOp (.reg rt ty amt), halu .movOp (.regsh rt ty rs), halu .movOp (.long w),
    halu .mvnOp (.short imm rot), halu .mvnOp (.reg rt ty amt), halu .mvnOp (.regsh rt ty rs), halu .mvnOp (.long w)⟩

end Sys2Proof.Machine
end

section
/-! The compares, which write a predicate register (42_compare.md R221 to R227): O35, O36, O37, O38, from the lane of their
family form. -/
namespace Sys2Proof.Machine

/-! ## An instruction that writes a predicate register -/

/-- A write of a predicate register in one equation, whichever register it is; P3 takes no value (10_state.md R26). -/
theorem State.setPredReg_eq (s : State) (pd : PredReg) (b : Bool) : s.setPredReg pd b =
    { s with p0 := if pd = 0 then b else s.p0, p1 := if pd = 1 then b else s.p1, p2 := if pd = 2 then b else s.p2 } := by
  match pd with
  | 0 => rfl
  | 1 => rfl
  | 2 => rfl
  | 3 => rfl

/-- What a packet that writes one predicate register leaves, by the model's own write of it. -/
theorem State.afterPred_eq (s : State) (p : Pred) (pd : PredReg) (b : Bool) :
    s.afterPred p pd b = if s.holds p then s.advance.setPredReg pd b else s.advance := by
  rw [State.setPredReg_eq]
  rfl

/-- An instruction alone in its packet that writes one predicate register. -/
theorem exec_of_lane_pred {f : Form} {s : State} {pd : PredReg} {b : Bool} (hm : f.kernelOnly = true → s.mode = .kernel)
    (h : Form.lane 0 s f = .writes [.pred pd b]) : exec f.instr s = .next (s.afterPred f.pred pd b) := by
  rw [State.afterPred_eq]
  exact exec_of_lane_writes hm h

/-! ## The bit of each compare -/

/-- CMPEQ compares the unsigned numbers (42_compare.md R223). -/
theorem result_cmpeq (a b : Word) : CmpOp.result .cmpeqOp a b = decide (a.toNat = b.toNat) := by
  change (a == b) = _
  rw [beq_eq_decide]
  exact decide_eq_decide.mpr BitVec.toNat_inj.symm

/-- A word is not zero exactly if one of its bits is 1. -/
theorem bne_zero_eq_any_getLsbD {n : Nat} (v : BitVec n) : (v != 0#n) = (List.range n).any v.getLsbD := by
  rw [Bool.eq_iff_iff, bne_iff_ne, List.any_eq_true]
  constructor
  · intro hne
    by_contra hnone
    refine hne (BitVec.eq_of_getLsbD_eq fun k hk => ?_)
    rw [BitVec.getLsbD_zero, Bool.eq_false_iff]
    exact fun hbit => hnone ⟨k, List.mem_range.mpr hk, hbit⟩
  · rintro ⟨k, -, hbit⟩ rfl
    exact Bool.false_ne_true (BitVec.getLsbD_zero.symm.trans hbit)

/-- CMPBS bit by bit (42_compare.md R226). -/
theorem result_cmpbs (a b : Word) :
    CmpOp.result .cmpbsOp a b = (List.range 32).any fun k => a.getLsbD k && b.getLsbD k := by
  change ((a &&& b) != 0#32) = _
  rw [bne_zero_eq_any_getLsbD]
  exact congrArg (List.any (List.range 32)) (funext fun _ => BitVec.getLsbD_and)

/-- An open parameter is one of its two readings, whether they agree or not. -/
theorem openChoice_eq_ite {α : Type} [DecidableEq α] (c : Bool) (x y : α) : openChoice c x y = if c then x else y := by
  unfold openChoice
  split
  case isTrue hagree => rw [hagree, ite_self]
  case isFalse => exact Bool.cond_eq_ite c x y

/-- CMPBC by the reading that the open parameter selects (42_compare.md R227; decision D21, log 10). -/
theorem result_cmpbc (a b : Word) : CmpOp.result .cmpbcOp a b =
    if Config.cmpbcAllClear then a &&& b == 0#32 else ~~~a &&& b != 0#32 :=
  openChoice_eq_ite _ _ _

/-- A mask of one bit meets a word exactly if the word has that bit. -/
theorem and_one_shiftLeft_eq_zero_iff (a : Word) {k : Nat} (hk : k < 32) :
    a &&& 1#32 <<< k = 0#32 ↔ a.getLsbD k = false := by
  have hne : (1#32 <<< k) ≠ 0#32 := fun h => by
    have hbit : (1#32 <<< k).getLsbD k = true := by simp [hk]
    simp [h] at hbit
  rw [← BitVec.twoPow_eq] at hne ⊢
  rw [BitVec.and_twoPow]
  cases a.getLsbD k
  · simp
  · simp [hne]

/-- With a mask of one bit both readings of CMPBC say that the bit is 0 (42_compare.md R227). -/
theorem bitsClear_readings_of_one_bit (allClear : Bool) (a : Word) {k : Nat} (hk : k < 32) :
    (if allClear then a &&& 1#32 <<< k == 0#32 else ~~~a &&& 1#32 <<< k != 0#32) = !a.getLsbD k := by
  have hall := and_one_shiftLeft_eq_zero_iff a hk
  have hany := and_one_shiftLeft_eq_zero_iff (~~~a) hk
  rw [BitVec.getLsbD_not, decide_eq_true hk, Bool.true_and] at hany
  rw [Bool.eq_iff_iff, Bool.not_eq_true']
  cases allClear with
  | true => exact beq_iff_eq.trans hall
  | false => simp [hany]

/-! ## Every compare in every format -/

section Compare
variable (s : State) (p : Pred) (pd : PredReg) (rs : Reg)

/-- A compare of any operation and format (42_compare.md R220). -/
theorem exec_cmp (o : CmpOp) (b : Op2) :
    exec (Form.instr (.cmp o p pd rs b)) s = .next (s.afterPred p pd (CmpOp.result o (s.reg rs) (Op2.value s b))) :=
  exec_of_lane_pred (f := .cmp o p pd rs b) nofun rfl

theorem exec_cmpeq (b : Op2) : exec (Form.instr (.cmp .cmpeqOp p pd rs b)) s =
    .next (s.afterPred p pd (decide ((s.reg rs).toNat = (Op2.value s b).toNat))) := by
  rw [← result_cmpeq]
  exact exec_cmp s p pd rs .cmpeqOp b

theorem exec_cmpbs (b : Op2) : exec (Form.instr (.cmp .cmpbsOp p pd rs b)) s =
    .next (s.afterPred p pd ((List.range 32).any fun k => (s.reg rs).getLsbD k && (Op2.value s b).getLsbD k)) := by
  rw [← result_cmpbs]
  exact exec_cmp s p pd rs .cmpbsOp b

theorem exec_cmpbc (b : Op2) : exec (Form.instr (.cmp .cmpbcOp p pd rs b)) s =
    .next (s.afterPred p pd (if Config.cmpbcAllClear then s.reg rs &&& Op2.value s b == 0#32
      else ~~~(s.reg rs) &&& Op2.value s b != 0#32)) := by
  rw [← result_cmpbc]
  exact exec_cmp s p pd rs .cmpbcOp b

end Compare

/-! ## The statements -/

/-- Settles O35, by the operation and its format: words are equal exactly if their numbers are. -/
theorem unsignedCompareResults : Obligations.UnsignedCompareResults := by
  intro s p pd rs rt imm rot ty amt w
  have hcmp := exec_cmp s p pd rs
  have heq := exec_cmpeq s p pd rs
  exact ⟨hcmp .cmpltuOp (.short imm rot), hcmp .cmpltuOp (.reg rt ty amt), hcmp .cmpltuOp (.long w),
    hcmp .cmpleuOp (.short imm rot), hcmp .cmpleuOp (.reg rt ty amt), hcmp .cmpleuOp (.long w),
    heq (.short imm rot), heq (.reg rt ty amt), heq (.long w)⟩

/-- Settles O36, by the operation and its format. -/
theorem signedCompareResults : Obligations.SignedCompareResults := by
  intro s p pd rs rt imm rot ty amt w
  have hcmp := exec_cmp s p pd rs
  exact ⟨hcmp .cmpltsOp (.short imm rot), hcmp .cmpltsOp (.reg rt ty amt), hcmp .cmpltsOp (.long w),
    hcmp .cmplesOp (.short imm rot), hcmp .cmplesOp (.reg rt ty amt), hcmp .cmplesOp (.long w)⟩

/-- Settles O37, by the format: a word is not zero exactly if one of its bits is 1. -/
theorem compareBitsSetResults : Obligations.CompareBitsSetResults := by
  intro s p pd rs rt imm rot ty amt w
  have hcmpbs := exec_cmpbs s p pd rs
  exact ⟨hcmpbs (.short imm rot), hcmpbs (.reg rt ty amt), hcmpbs (.long w)⟩

/-- Settles O38: the reading is the one the open parameter selects, for all operands; on one bit both readings agree. -/
theorem compareBitsClearResults : Obligations.CompareBitsClearResults := by
  refine ⟨Config.cmpbcAllClear, fun s p pd rs rt imm rot ty amt w => ?_⟩
  have hcmpbc := exec_cmpbc s p pd rs
  exact ⟨hcmpbc (.short imm rot), hcmpbc (.reg rt ty amt), hcmpbc (.long w),
    fun k hk => bitsClear_readings_of_one_bit Config.cmpbcAllClear (s.reg rs) hk⟩

end Sys2Proof.Machine
end

section
/-! A packet one instruction of which executes, in any slot (40_packet_and_operands.md R165), and what such a packet does. -/
namespace Sys2Proof.Machine

/-! ## One lane among idle ones -/

/-- An idle lane before lanes that do not raise does not change how the packet ends. -/
theorem finish_idle_cons {outs : List LaneOut} (h : ∀ o ∈ outs, o.exc = none) (s : State) :
    finish (.idle :: outs) s = finish outs s := by
  have hraise : (outs.any fun o => o.exc.isSome) = false := List.any_eq_false.mpr fun o ho => by simp [h o ho]
  have hraise' : ((LaneOut.idle :: outs).any fun o => o.exc.isSome) = false := hraise
  have hstop : firstStop (.idle :: outs) = firstStop outs := rfl
  have haccess : (LaneOut.idle :: outs).filterMap LaneOut.access = outs.filterMap LaneOut.access := rfl
  have hcommit : commit (.idle :: outs) s = commit outs s := rfl
  simp only [finish, hstop, haccess, hraise, hraise', hcommit, Bool.false_eq_true, if_false]

/-- A packet whose lane `k` does not raise and whose other lanes are idle ends as lane `k` alone. -/
theorem finish_of_only_lane {outs : List LaneOut} {k : Nat} {o : LaneOut} (ho : outs[k]? = some o) (hexc : o.exc = none)
    (hidle : ∀ j x, j ≠ k → outs[j]? = some x → x = LaneOut.idle) (s : State) : finish outs s = finish [o] s := by
  induction outs generalizing k with
  | nil => cases ho
  | cons x xs ih =>
    cases k with
    | zero =>
      obtain rfl := Option.some.inj ho
      refine finish_cons_idle _ (fun y hy => ?_) s
      obtain ⟨j, hj⟩ := List.mem_iff_getElem?.mp hy
      exact hidle (j + 1) y (Nat.succ_ne_zero j) hj
    | succ k =>
      obtain rfl := hidle 0 x (Nat.succ_ne_zero k).symm rfl
      have htail : ∀ j y, j ≠ k → xs[j]? = some y → y = LaneOut.idle := fun j y hj hy =>
        hidle (j + 1) y (fun e => hj (Nat.succ.inj e)) hy
      rw [finish_idle_cons fun y hy => ?_, ih ho htail]
      obtain ⟨j, hj⟩ := List.mem_iff_getElem?.mp hy
      by_cases hjk : j = k
      · subst hjk
        cases Option.some.inj (ho.symm.trans hj)
        exact hexc
      · rw [htail j y hjk hj]
        rfl

section
variable {slots : List Slot} {s : State} {k : Nat} {i : Instr} (h : soleIn k i slots s)
include h

/-- The destinations of such a packet are distinct. -/
theorem namesDistinct_of_soleIn : namesDistinct slots := by
  obtain ⟨-, -, -, hwf, -⟩ := h
  simp only [packetWellFormed, Bool.and_eq_true] at hwf
  exact namesDistinct_of_destsDistinct hwf.2

/-- Every instruction of such a packet is allowed in its slot. -/
theorem allowedIn_of_soleIn {j : Nat} {x : Instr} (hx : slots[j]? = some (.instr x)) : x.allowedIn j = true := by
  obtain ⟨-, -, -, hwf, -⟩ := h
  simp only [packetWellFormed, Bool.and_eq_true] at hwf
  have := allowedIn_of_slotsWellPlaced hwf.1.2 (j := j) (i := x) (by rw [List.getElem?_map, hx]; rfl)
  rwa [Nat.zero_add] at this

/-- No other instruction of such a packet executes. -/
theorem eq_of_executes_of_soleIn {x : Instr} (hx : executes slots s x) : x = i := by
  obtain ⟨-, hk, -, -, hfalse⟩ := h
  obtain ⟨hmem, hp⟩ := hx
  obtain ⟨j, hj⟩ := List.mem_iff_getElem?.mp hmem
  by_cases hjk : j = k
  · subst hjk
    exact Slot.instr.inj (Option.some.inj (hj.symm.trans hk))
  · rw [hfalse j x hjk hj] at hp
    cases hp

/-- R168 refuses no such packet. -/
theorem packetRefusal_of_soleIn : packetRefusal (lanesFrom 0 slots) s = none := by
  refine packetRefusal_eq_none (namesDistinct_of_soleIn h) ?_
  rw [← Bool.not_eq_true, linkConflict_iff]
  rintro ⟨⟨a, ha, hset⟩, b, hb, hclear⟩
  rw [eq_of_executes_of_soleIn h ha] at hset
  rw [eq_of_executes_of_soleIn h hb] at hclear
  exact not_setsLink_and_clearsLink hset hclear

/-- The other slots of such a packet do nothing (40_packet_and_operands.md R164, R165). -/
theorem runSlot_other_of_soleIn {j : Nat} {x : Slot} (hjk : j ≠ k) (hx : slots[j]? = some x) :
    runSlot (lanesFrom 0 slots) s j x = .idle := by
  obtain ⟨-, -, hdefined, -, hfalse⟩ := id h
  refine runSlot_eq_idle (fun e => hdefined (e ▸ List.mem_of_getElem? hx)) fun y hy => ?_
  subst hy
  exact ⟨allowedIn_of_soleIn h hx, hfalse j y hjk hx⟩

/-- Such a packet ends with what the lane of its instruction yields, if that does not raise. -/
theorem runPacket_of_soleIn (hko : i.kernelOnly = false) (hp : s.holds i.pred = true) (hexc : (laneOf i k s).exc = none) :
    runPacket slots s = finish [laneOf i k s] s := by
  obtain ⟨-, hk, -⟩ := id h
  have hlane : ∀ j, (lanesOut slots s)[j]? = slots[j]?.map (runSlot (lanesFrom 0 slots) s j) := fun j => by
    rw [lanesOut, getElem?_runSlots, Nat.zero_add]
  have hself : runSlot (lanesFrom 0 slots) s k (.instr i) = laneOf i k s :=
    runSlot_eq_laneOf (namesDistinct_of_soleIn h) (allowedIn_of_soleIn h hk) hko hp
  have hfinish : runPacket slots s = finish (lanesOut slots s) s := by
    simp only [runPacket, packetRefusal_of_soleIn h, lanesOut]
  rw [hfinish]
  refine finish_of_only_lane (k := k) (by rw [hlane, hk, Option.map_some, hself]) hexc (fun j o hjk ho => ?_) s
  rw [hlane] at ho
  obtain ⟨x, hx, rfl⟩ := Option.map_eq_some_iff.mp ho
  exact runSlot_other_of_soleIn h hjk hx

end

/-! ## An instruction in slot `k`, alone or beside instructions that do not execute -/

/-- The instruction has the outcome `o` alone in its packet, if it stands in slot 0, and in slot `k` of a packet whose other
instructions do not execute. -/
def runsTo (k : Nat) (i : Instr) (s : State) (o : Host.Outcome State Fault Refusal) : Prop :=
  (k = 0 → exec i s = o) ∧ ∀ slots, soleIn k i slots s → runPacket slots s = o

section
variable {k : Nat} {f : Form} {s : State} (hko : f.kernelOnly = false) (hp : s.holds f.pred = true)
include hko hp

/-- An instruction whose lane does not raise has the outcome of its lane. -/
theorem runsTo_finish (hexc : (Form.lane k s f).exc = none) : runsTo k f.instr s (finish [Form.lane k s f] s) := by
  have hko' : f.instr.kernelOnly = false := (congrArg Form.kernelOnly (form_instr f)).trans hko
  have hp' : s.holds f.instr.pred = true := (congrArg (s.holds ·.pred) (form_instr f)).trans hp
  have hlane : laneOf f.instr k s = Form.lane k s f := by rw [laneOf_eq_lane, form_instr]
  rw [← hlane] at hexc ⊢
  refine ⟨?_, fun slots h => runPacket_of_soleIn h hko' hp' hexc⟩
  rintro rfl
  rw [exec_eq_runAlone, runAlone_of_holds _ _ _ _ hp' fun hk => absurd (hko'.symm.trans hk) Bool.false_ne_true]

/-- An instruction whose lane queues writes: they are carried out after what the data TLB takes up and the advance of the
pc. -/
theorem runsTo_done {ws : List Write} {acc : Option Access} {fills : List TlbEntry}
    (h : Form.lane k s f = .done ws acc fills) : runsTo k f.instr s (.next ((s.withFills fills).advance.applyAll ws)) := by
  have hrun := runsTo_finish hko hp (k := k) (by rw [h]; rfl)
  rw [h, finish_done] at hrun
  exact hrun

/-- An instruction whose lane faults stops the machine. -/
theorem runsTo_fault {x : Fault} (h : Form.lane k s f = .fault x) : runsTo k f.instr s (.fault x) := by
  have hrun := runsTo_finish hko hp (k := k) (by rw [h]; rfl)
  rw [h, finish_fault] at hrun
  exact hrun

end

end Sys2Proof.Machine
end

section
/-! The memory instructions (43_load_store.md R240 to R248): O39, O40, O41, O42, O43. -/
namespace Sys2Proof.Machine

/-! ## The value of a load -/

/-- A byte below a value: what a little-endian load of one more byte makes of them (20_memory.md R61). -/
theorem shiftLeft_or_setWidth {n : Nat} (v : BitVec n) (b : Byte) :
    v.setWidth 32 <<< 8 ||| b.setWidth 32 = (v ++ b).setWidth 32 := by
  refine BitVec.eq_of_getLsbD_eq fun i hi => ?_
  by_cases hb : i < 8
  · simp [BitVec.getLsbD_append, hi, hb]
  · have hb8 : b.getLsbD i = false := BitVec.getLsbD_of_ge b i (by omega)
    simp [BitVec.getLsbD_append, hi, hb, hb8]

section
variable {read : Nat → Option Byte} {a : Nat}

/-- The bytes of a load are joined from the highest address down. -/
theorem readLE_succ {n m : Nat} {b : Byte} {v : BitVec m} (hb : read a = some b)
    (hv : readLE read (a + 1) n = some (v.setWidth 32)) : readLE read a (n + 1) = some ((v ++ b).setWidth 32) := by
  simp only [readLE, hb, hv, shiftLeft_or_setWidth]

theorem readLE_one {b : Byte} (hb : read a = some b) : readLE read a 1 = some (b.setWidth 32) := by
  simp [readLE, hb]

theorem readLE_two {b0 b1 : Byte} (h0 : read a = some b0) (h1 : read (a + 1) = some b1) :
    readLE read a 2 = some ((b1 ++ b0).setWidth 32) :=
  readLE_succ h0 (readLE_one h1)

theorem readLE_four {b0 b1 b2 b3 : Byte} (h0 : read a = some b0) (h1 : read (a + 1) = some b1) (h2 : read (a + 2) = some b2)
    (h3 : read (a + 3) = some b3) : readLE read a 4 = some (b3 ++ b2 ++ b1 ++ b0) := by
  rw [readLE_succ h0 (readLE_succ h1 (readLE_two h2 h3))]
  exact congrArg some (BitVec.setWidth_eq _)

/-- A load one byte of which nothing has written has no value (70_reset_and_hazards.md R375, U4; log 4). -/
theorem readLE_eq_none {n q : Nat} (hlo : a ≤ q) (hhi : q < a + n) (hq : read q = none) : readLE read a n = none := by
  induction n generalizing a with
  | zero => omega
  | succ n ih =>
    simp only [readLE]
    by_cases hqa : q = a
    · rw [← hqa, hq]
    · rw [ih (a := a + 1) (by omega) (by omega)]
      cases read a <;> rfl

end

/-! ## Loads -/

section
variable {s : State} {k : Nat} {p : Pred} {rd rs : Reg} {off : BitVec 12} {pa : Nat} {ea : Word} {fills : List TlbEntry}
  {o : LoadOp} (hp : s.holds p = true) (hea : alignDown (dataAddr s rs off) (LoadOp.bytes o) = ea)
  (htrans : s.translate (k + 1) .read ea = .ok pa fills)
include hp hea htrans

/-- A load whose bytes are written puts their value into Rd (43_load_store.md R241 to R244). -/
theorem runsTo_load {v : Word} (hv : readLE (s.dataByte (3 * (k + 1))) pa (LoadOp.bytes o) = some v) :
    runsTo k (Form.instr (.load o p rd rs off)) s
      (.next ((s.withFills fills).advance.applyAll (.gpr rd v :: LoadOp.extra o))) := by
  have hlane : Form.lane k s (.load o p rd rs off) =
      .done (.gpr rd v :: LoadOp.extra o) (some ⟨pa, LoadOp.bytes o, false⟩) fills := by
    simp only [Form.lane, loadLane, accessLane, hea, htrans, hv]
  exact runsTo_done rfl hp hlane

/-- A load of a byte that nothing has written stops the machine (70_reset_and_hazards.md R375, U4; log 4). -/
theorem runsTo_load_unwritten {q : Nat} (hlo : pa ≤ q) (hhi : q < pa + LoadOp.bytes o)
    (hq : s.dataByte (3 * (k + 1)) q = none) :
    runsTo k (Form.instr (.load o p rd rs off)) s (.fault (.unwrittenMemory pa)) := by
  have hlane : Form.lane k s (.load o p rd rs off) = .fault (.unwrittenMemory pa) := by
    simp only [Form.lane, loadLane, accessLane, hea, htrans, readLE_eq_none hlo hhi hq]
  exact runsTo_fault rfl hp hlane

end

/-- Settles O39, by the width of the load: the value of its bytes, or the stop at one that nothing has written. -/
theorem loadResults : Obligations.LoadResults := by
  intro s k p rd rs off pa fills b0 b1 b2 b3 _ hp addr byte runs
  have ea1 := alignDown_one (dataAddr s rs off)
  have ea2 := alignDown_two (dataAddr s rs off)
  have ea4 := alignDown_four (dataAddr s rs off)
  refine ⟨fun h h0 => ?_, fun h h0 h1 => ?_, fun h h0 h1 h2 h3 => ?_, dataByte_of_ram s _, fun h q hlo hhi hq => ?_,
    fun h q hlo hhi hq => ?_, fun h => ⟨fun q hlo hhi hq => ?_, fun q hlo hhi hq => ?_⟩⟩
  · exact runsTo_load (o := .lbOp) hp ea1 h (readLE_one h0)
  · exact runsTo_load (o := .lhOp) hp ea2 h (readLE_two h0 h1)
  · exact runsTo_load (o := .lwOp) hp ea4 h (readLE_four h0 h1 h2 h3)
  · exact runsTo_load_unwritten (o := .lbOp) hp ea1 h hlo hhi hq
  · exact runsTo_load_unwritten (o := .lhOp) hp ea2 h hlo hhi hq
  · exact runsTo_load_unwritten (o := .lwOp) hp ea4 h hlo hhi hq
  · exact runsTo_load_unwritten (o := .llOp) hp ea4 h hlo hhi hq

/-- Settles O40: the load of a word that also queues the link bit. -/
theorem loadLinkedResult : Obligations.LoadLinkedResult := by
  intro s k p rd rs off pa fills b0 b1 b2 b3 _ hp h byte h0 h1 h2 h3
  exact runsTo_load (o := .llOp) hp (alignDown_four _) h (readLE_four h0 h1 h2 h3)

/-! ## Stores -/

/-- What a store of `n` bytes of `v` at `pa` leaves of memory and the L2 view in state `t`: the bytes of RAM it covers are
stored, little-endian, and the L2 view may still hold those it replaced (20_memory.md R61, R98; decision D1, log 15). -/
def storesBytes (s t : State) (pa n : Nat) (v : Word) : Prop :=
  (∀ a, Memory.read t.mem a =
      if pa ≤ a ∧ a < pa + n ∧ s.isRam a = true then some (v.extractLsb' (8 * (a - pa)) 8) else Memory.read s.mem a) ∧
  ∀ o, o ∈ t.l2old ↔ o ∈ s.l2old ∨ (pa ≤ o.1 ∧ o.1 < pa + n ∧ s.isRam o.1 = true ∧ o.2 = Memory.read s.mem o.1)

theorem storesBytes_storeBytes (s : State) (pa n : Nat) (v : Word) : storesBytes s (s.storeBytes pa n v) pa n v := by
  refine ⟨fun a => ?_, mem_l2old_storeBytes n s pa v⟩
  rw [read_storeBytes, BitVec.setWidth_ushiftRight_eq_extractLsb]

section
variable {s : State} {k n : Nat} {p : Pred} {rt rs : Reg} {off : BitVec 12} {pa : Nat} {ea : Word} {fills : List TlbEntry}
  (hea : alignDown (dataAddr s rs off) n = ea) (htrans : s.translate (k + 1) .write ea = .ok pa fills)
include hea htrans

/-- A store whose lane queues the further writes `ws`: they are carried out on a state in which the bytes stand in memory and
the data TLB has taken up the translation, and in which nothing else but the pc has changed (43_load_store.md R240, R245 to
R248). -/
theorem runsTo_store {o : StoreOp} {ws : List Write} (hp : s.holds p = true)
    (hlane : StoreOp.lane o rt rs off k s = storeLane n ws rt rs off k s) :
    ∃ u, runsTo k (Form.instr (.store o p rt rs off)) s (.next (u.applyAll ws)) ∧
      u = { (s.withFills fills).advance with mem := u.mem, l2old := u.l2old } ∧ storesBytes s u pa n (s.reg rt) := by
  have hdone : Form.lane k s (.store o p rt rs off) =
      .done (.store pa n (s.reg rt) :: ws) (some ⟨pa, n, true⟩) fills := by
    simp only [Form.lane, hlane, storeLane, accessLane, hea, htrans]
  exact ⟨(s.withFills fills).advance.storeBytes pa n (s.reg rt), runsTo_done rfl hp hdone, storeBytes_frame n _ pa _,
    storesBytes_storeBytes (s.withFills fills).advance pa n _⟩

end

/-- Settles O41, by the width of the store, which queues nothing else. -/
theorem storeResults : Obligations.StoreResults := by
  intro s k p rt rs off pa fills _ hp addr runs stored
  exact ⟨fun h => runsTo_store (alignDown_one _) h (o := .sbOp) hp rfl,
    fun h => runsTo_store (alignDown_two _) h (o := .shOp) hp rfl,
    fun h => runsTo_store (alignDown_four _) h (o := .swOp) hp rfl⟩

/-- Settles O42: with the link bit the lane of SC is a store of a word that also queues P0 and the link bit. -/
theorem storeConditionalSucceedsWithLink : Obligations.StoreConditionalSucceedsWithLink := by
  intro s k p rt rs off pa fills _ hp hlink h
  have hlane : laneSc rt rs off k s = storeLane 4 [.pred 0 true, .link false] rt rs off k s := if_pos hlink
  obtain ⟨u, ⟨hexec, hpacket⟩, hframe, hstores⟩ := runsTo_store (alignDown_four _) h (o := .scOp) hp hlane
  exact ⟨_, hexec, hpacket, congrArg (fun v : State => { v with p0 := true, link := false }) hframe, hstores⟩

/-- Settles O43: without the link bit the lane of SC queues P0 and the link bit, and neither translates nor stores. -/
theorem storeConditionalFailsWithoutLink : Obligations.StoreConditionalFailsWithoutLink := by
  intro s p rt rs off hp hlink
  have hlane : ∀ k, laneSc rt rs off k s = .writes [.pred 0 false, .link false] := fun k => if_neg (by simp [hlink])
  have hstate : (s.withFills []).advance.applyAll [.pred 0 false, .link false] = { s.advance with p0 := false } := by
    rw [← hlink]
    rfl
  have hrun : ∀ k, runsTo k (.sc p rt rs off) s (.next { s.advance with p0 := false }) := fun k =>
    hstate ▸ runsTo_done (f := .store .scOp p rt rs off) rfl hp (hlane k)
  exact ⟨(hrun 0).1 rfl, fun k slots _ hsole => (hrun k).2 slots hsole⟩

end Sys2Proof.Machine
end

section
/-! The memory frame of a packet (43_load_store.md R240, 20_memory.md R94, R98): O9. -/
namespace Sys2Proof.Machine

/-- The L2 view keeps what it may hold at a write that is no FLUSH DATA, and takes up the byte of RAM that a store replaces
(20_memory.md R98). -/
theorem mem_l2old_apply {w : Write} (hw : ∀ pa, w ≠ .flushData pa) {s : State} {o : OldByte}
    (h : o ∈ s.l2old ∨ (w.covers o.1 ∧ s.isRam o.1 = true ∧ o.2 = Memory.read s.mem o.1)) : o ∈ (s.apply w).l2old := by
  cases w with
  | store pa n v => exact (mem_l2old_storeBytes n s pa v o).mpr (h.imp_right fun ⟨⟨hlo, hhi⟩, hrest⟩ => ⟨hlo, hhi, hrest⟩)
  | flushData pa => exact absurd rfl (hw pa)
  | _ => simpa [State.apply, Write.covers] using h

/-- What the L2 view may hold after a list of writes without FLUSH DATA whose stores do not meet. -/
theorem mem_l2old_applyAll_iff {ws : List Write} (hapart : ws.Pairwise Write.storesApart) (hflush : ∀ pa, .flushData pa ∉ ws)
    {s : State} {o : OldByte} : o ∈ (s.applyAll ws).l2old ↔
      o ∈ s.l2old ∨ ((∃ w ∈ ws, w.covers o.1) ∧ s.isRam o.1 = true ∧ o.2 = Memory.read s.mem o.1) := by
  refine ⟨of_mem_l2old_applyAll hapart, fun h => ?_⟩
  induction ws generalizing s with
  | nil => exact h.resolve_right fun ⟨⟨_, hw, _⟩, _⟩ => List.not_mem_nil hw
  | cons w ws ih =>
    obtain ⟨hhead, htail⟩ := List.pairwise_cons.mp hapart
    have hw : ∀ pa, w ≠ .flushData pa := fun pa e => hflush pa (e ▸ List.mem_cons_self)
    refine ih htail (fun pa hmem => hflush pa (List.mem_cons_of_mem _ hmem)) (s := s.apply w) ?_
    obtain h | ⟨⟨w', hw', hcov⟩, hram, hread⟩ := h
    · exact .inl (mem_l2old_apply hw (.inl h))
    · obtain rfl | hw' := List.mem_cons.mp hw'
      · exact .inl (mem_l2old_apply hw (.inr ⟨hcov, hram, hread⟩))
      · have hnot : ¬ w.covers o.1 := fun h => hhead w' hw' _ h hcov
        exact .inr ⟨⟨w', hw', hcov⟩, by rw [apply_isRam, hram], by rw [read_apply_of_not_covers hnot, hread]⟩

/-- A packet without stores queues none. -/
theorem not_storesTo_of_no_store {slots : List Slot} {s : State} (h : ∀ i, .instr i ∈ slots → Form.isStore i.form = false)
    (a : Nat) : ¬ storesTo slots s a := by
  rw [storesTo_iff]
  rintro ⟨w, hw, hcov⟩
  obtain ⟨i, ⟨hi, -⟩, hq⟩ := exists_executes_of_mem_queue hw
  cases w with
  | store pa n v => exact absurd ((h i hi).symm.trans hq) Bool.false_ne_true
  | _ => exact hcov

/-- A byte that no queued store covers is after the packet what it was, whether it commits or traps. -/
theorem read_runPacket {slots : List Slot} {s t : State} (h : runPacket slots s = .next t) {a : Nat}
    (hno : ¬ storesTo slots s a) : Memory.read t.mem a = Memory.read s.mem a := by
  obtain rfl | rfl := runPacket_next h
  · exact read_applyAll_of_not_covers (fun w hw hcov => hno (storesTo_iff.mpr ⟨w, hw, hcov⟩)) _
  · exact read_trapPacket hno

/-- Settles O9: the stores a packet queues do not meet, so each replaces bytes that memory held before the packet. -/
theorem packetChangesOnlyStoredBytes : Obligations.PacketChangesOnlyStoredBytes := by
  intro slots s t h
  refine ⟨fun hstore a => read_runPacket h (not_storesTo_of_no_store hstore a), fun hr =>
    ⟨fun a => read_runPacket h, fun hflush o => ?_⟩⟩
  obtain ⟨-, hconf, -⟩ := finish_cases (runPacket_cases h).2
  have hnoflush : ∀ pa, .flushData pa ∉ (lanesOut slots s).flatMap LaneOut.queue := fun pa hpa => by
    obtain ⟨i, hi, rs, p, hf⟩ := exists_executes_of_mem_queue hpa
    exact hflush p rs (executes_of_form hi hf)
  rw [runPacket_next_of_raisesNothing h hr, storesTo_iff]
  exact mem_l2old_applyAll_iff (storesApart_queue hconf) hnoflush

end Sys2Proof.Machine
end

section
/-! The branches B and BL (44_branch.md R270 to R273): O45, O46, from the lane of their family form. -/
namespace Sys2Proof.Machine

/-! ## The target of the register form -/

/-- A packet offset of any width counts 16 bytes a packet (44_branch.md R270). -/
theorem signExtend_packetOffset {n : Nat} (off : BitVec n) : (off ++ 0#4).signExtend 32 = BitVec.ofInt 32 (16 * off.toInt) := by
  rw [BitVec.signExtend, BitVec.toInt_append_zero]
  rfl

/-- The target of a branch in the register form (44_branch.md R270). -/
theorem target_reg (s : State) (rs : Reg) (off : BitVec 20) :
    Target.addr s (.reg rs off) = BitVec.ofInt 32 ((s.reg rs).toInt + 16 * off.toInt) &&& 0xFFFFFFF0#32 := by
  rw [BitVec.ofInt_add, BitVec.ofInt_toInt, ← signExtend_packetOffset]
  rfl

/-! ## A branch alone in its packet, in either form -/

section
variable (s : State) (p : Pred) (g : Target)

/-- B queues the new pc alone (44_branch.md R271). -/
theorem exec_b : exec (Form.instr (.branch false p g)) s = .next (s.afterIf p fun a => { a with pc := Target.addr s g }) :=
  exec_of_lane_writes (f := .branch false p g) nofun rfl

/-- BL also queues R31, which gets the address of its own packet (44_branch.md R272, R273, decision D42). -/
theorem exec_bl : exec (Form.instr (.branch true p g)) s =
    .next (s.afterIf p fun a => { a with regs := s.regs.set 31 s.pc, pc := Target.addr s g }) :=
  exec_of_lane_writes (f := .branch true p g) nofun rfl

end

/-! ## The statements -/

/-- Settles O45, by the form of the target. -/
theorem branchResults : Obligations.BranchResults := by
  intro s p rs o25 o20
  rw [← target_imm, ← target_reg]
  exact ⟨exec_b s p (.imm o25), exec_b s p (.reg rs o20)⟩

/-- Settles O46, by the form of the target. -/
theorem branchWithLinkResults : Obligations.BranchWithLinkResults := by
  intro s p rs o25 o20
  rw [← target_imm, ← target_reg]
  exact ⟨exec_bl s p (.imm o25), exec_bl s p (.reg rs o20)⟩

end Sys2Proof.Machine
end

section
/-! The Control instructions open to both modes (45_control.md R281 to R296): O47, O48, O49, O50, O51, O52, from their lanes. -/
namespace Sys2Proof.Machine

/-! ## An instruction alone in its packet that raises or faults -/

section
variable {i : Instr} {s : State} (hp : s.holds i.pred = true) (hm : i.kernelOnly = true → s.mode = .kernel)
include hp hm

/-- An instruction that executes alone and whose lane raises takes the trap, after what the data TLB takes up. -/
theorem exec_raised {x : Exc} {fills : List TlbEntry} (h : laneOf i 0 s = .raised x fills) :
    exec i s = .next (trapEntry (some x) none none none 0b00#2 (s.withFills fills)) := by
  rw [exec_eq_runAlone, runAlone_of_holds _ _ _ _ hp hm, h, finish_raised]
  rfl

/-- An instruction that executes alone and raises an exception without an address. -/
theorem exec_raise {c : ExcCode} (h : laneOf i 0 s = .raise c) : exec i s = .next (s.afterTrap c) :=
  exec_raised hp hm h

/-- An instruction that executes alone and whose lane faults stops the machine. -/
theorem exec_fault {x : Fault} (h : laneOf i 0 s = .fault x) : exec i s = .fault x := by
  rw [exec_eq_runAlone, runAlone_of_holds _ _ _ _ hp hm, h, finish_fault]

end

/-- The trap of lane 0 without an address is trap entry (60_exceptions.md R340). -/
theorem trapped_afterTrap (s : State) (c : ExcCode) : trapped s (s.afterTrap c) :=
  ⟨rfl, rfl, rfl, rfl, rfl, rfl, rfl, rfl, rfl, rfl, rfl, rfl, rfl, rfl, rfl, rfl, rfl⟩

/-- The code that such a trap records in lane 0 (60_exceptions.md R341). -/
theorem exnType_ec0_afterTrap (s : State) (c : ExcCode) : exnType (s.afterTrap c).ec0 = c.bits :=
  exnType_errorCode _ _ _ _

/-- Such a trap records No Error in the other lanes (60_exceptions.md R341, decision D17). -/
theorem exnType_other_afterTrap (s : State) (c : ExcCode) : exnType (s.afterTrap c).ec1 = 0#5 ∧
    exnType (s.afterTrap c).ec2 = 0#5 ∧ exnType (s.afterTrap c).ec3 = 0#5 :=
  ⟨exnType_errorCode _ _ _ _, exnType_errorCode _ _ _ _, exnType_errorCode _ _ _ _⟩

/-! ## MULT and MULTS -/

/-- The low half of a 64-bit number. -/
theorem extract_low_ofInt (v : Int) : (BitVec.ofInt 64 v).extractLsb' 0 32 = BitVec.ofInt 32 v := by
  apply BitVec.eq_of_toNat_eq
  rw [BitVec.extractLsb'_toNat, BitVec.toNat_ofInt, BitVec.toNat_ofInt, Nat.shiftRight_zero]
  omega

/-- The high half of a 64-bit number. -/
theorem extract_high_ofInt (v : Int) : (BitVec.ofInt 64 v).extractLsb' 32 32 = BitVec.ofInt 32 (v / 2 ^ 32) := by
  apply BitVec.eq_of_toNat_eq
  rw [BitVec.extractLsb'_toNat, BitVec.toNat_ofInt, BitVec.toNat_ofInt, Nat.shiftRight_eq_div_pow]
  omega

/-- The lane of a product queues its two halves (45_control.md R281, R282). -/
theorem productLane_ofInt (rd : Reg) (v : Int) : productLane rd (BitVec.ofInt 64 v) =
    .writes [.gpr rd (BitVec.ofInt 32 v), .ovf (BitVec.ofInt 32 (v / 2 ^ 32))] := by
  rw [productLane, extract_low_ofInt, extract_high_ofInt]

/-- The same of a product that is given as an unsigned number. -/
theorem productLane_ofNat (rd : Reg) (u : Nat) : productLane rd (BitVec.ofNat 64 u) =
    .writes [.gpr rd (BitVec.ofNat 32 u), .ovf (BitVec.ofNat 32 (u / 2 ^ 32))] := by
  have h := productLane_ofInt rd u
  have hdiv : (u : Int) / 2 ^ 32 = ((u / 2 ^ 32 : Nat) : Int) := by omega
  rwa [hdiv, BitVec.ofInt_natCast, BitVec.ofInt_natCast, BitVec.ofInt_natCast] at h

/-- Settles O47: each lane queues the two halves of its product. -/
theorem multiplyResults : Obligations.MultiplyResults := by
  intro s p rd rs rt u v
  exact ⟨exec_of_lane_writes (f := .ctl (.multOp rd rs rt) p) nofun (productLane_ofNat rd u),
    exec_of_lane_writes (f := .ctl (.multsOp rd rs rt) p) nofun (productLane_ofInt rd v)⟩

/-! ## DIV -/

/-- The quotient, by the signedness that the open parameter selects (45_control.md R283, decision D12, log 11). -/
theorem divide_quotient (a b : Word) : (divide a b).1 = if Config.divSigned then BitVec.ofInt 32 (a.toInt.tdiv b.toInt)
    else BitVec.ofNat 32 (a.toNat / b.toNat) := by
  rw [divide, openChoice_eq_ite, apply_ite Prod.fst]
  rfl

/-- The remainder, by the same signedness. -/
theorem divide_remainder (a b : Word) : (divide a b).2 = if Config.divSigned then BitVec.ofInt 32 (a.toInt.tmod b.toInt)
    else BitVec.ofNat 32 (a.toNat % b.toNat) := by
  rw [divide, openChoice_eq_ite, apply_ite Prod.snd, Int.tmod_def, Int.mul_comm]
  rfl

section
variable {a b : Word} (ha : a.toNat < 2 ^ 31) (hb : b.toNat < 2 ^ 31)
include ha hb

/-- Below 2^31 both signednesses have one quotient (45_control.md R283). -/
theorem toNat_quotient_of_small (signed : Bool) : (if signed then BitVec.ofInt 32 (a.toInt.tdiv b.toInt)
    else BitVec.ofNat 32 (a.toNat / b.toNat)).toNat = a.toNat / b.toNat := by
  have hsigned : a.toInt.tdiv b.toInt = (a.toNat / b.toNat : Nat) := by
    rw [BitVec.toInt_eq_toNat_of_lt (by omega), BitVec.toInt_eq_toNat_of_lt (by omega), Int.ofNat_tdiv]
  have hle : a.toNat / b.toNat ≤ a.toNat := Nat.div_le_self _ _
  rw [hsigned, BitVec.ofInt_natCast, ite_self, BitVec.toNat_ofNat, Nat.mod_eq_of_lt (by omega)]

/-- Below 2^31 both signednesses have one remainder (45_control.md R283). -/
theorem toNat_remainder_of_small (signed : Bool) : (if signed then BitVec.ofInt 32 (a.toInt.tmod b.toInt)
    else BitVec.ofNat 32 (a.toNat % b.toNat)).toNat = a.toNat % b.toNat := by
  have hsigned : a.toInt.tmod b.toInt = (a.toNat % b.toNat : Nat) := by
    rw [BitVec.toInt_eq_toNat_of_lt (by omega), BitVec.toInt_eq_toNat_of_lt (by omega), Int.ofNat_tmod]
  have hle : a.toNat % b.toNat ≤ a.toNat := Nat.mod_le _ _
  rw [hsigned, BitVec.ofInt_natCast, ite_self, BitVec.toNat_ofNat, Nat.mod_eq_of_lt (by omega)]

end

/-- Settles O48: the signedness is the one the open parameter selects, for all operands. -/
theorem divisionResults : Obligations.DivisionResults := by
  refine ⟨Config.divSigned, fun s p rd rs rt hp hb => ⟨?_, fun ha hb => ?_⟩⟩
  · rw [← divide_quotient, ← divide_remainder]
    exact exec_done (i := .div p rd rs rt) hp nofun (if_neg hb)
  · exact ⟨toNat_quotient_of_small ha hb _, toNat_remainder_of_small ha hb _⟩

/-- Settles O49: with a divisor of 0 the lane raises Divide by Zero and queues nothing. -/
theorem divisionByZeroTraps : Obligations.DivisionByZeroTraps := by
  intro s p rd rs rt hp hb t
  obtain ⟨hec1, hec2, hec3⟩ := exnType_other_afterTrap s .divideByZero
  exact ⟨exec_raise (i := .div p rd rs rt) hp nofun (if_pos hb), trapped_afterTrap s _, exnType_ec0_afterTrap s _, hec1, hec2,
    hec3, rfl, rfl, rfl⟩

/-! ## MFHI, MTHI and FENCE -/

/-- Settles O50: each lane queues one write, in either mode. -/
theorem overflowRegisterMoves : Obligations.OverflowRegisterMoves := by
  intro s p r
  exact ⟨exec_of_lane_gpr (f := .ctl (.mfhiOp r) p) nofun rfl, exec_of_lane_writes (f := .ctl (.mthiOp r) p) nofun rfl⟩

/-- Settles O51: the lane queues nothing, so that its predicate does not matter. -/
theorem fenceOnlyAdvancesThePc : Obligations.FenceOnlyAdvancesThePc := by
  intro s p
  have h := exec_of_lane_writes (f := .ctl .fenceOp p) (s := s) (ws := []) nofun rfl
  rwa [show s.advance.applyAll [] = s.advance from rfl, ite_self] at h

/-! ## FLUSH DATA and FLUSH INST -/

/-- A line is a power of two of bytes, at least 4 (20_memory.md R103, decision D39, log 12). -/
theorem exists_lineBytes_eq_two_pow : ∃ n, 2 ≤ n ∧ lineBytes = 2 ^ n :=
  ⟨2 + Config.lineLog, Nat.le_add_right _ _, (Nat.pow_add 2 2 Config.lineLog).symm⟩

theorem sameLine_iff (a b : Nat) : sameLine a b = true ↔ a / lineBytes = b / lineBytes := beq_iff_eq

/-- What a set of older bytes holds after several more. -/
theorem mem_foldl_remember (os l : List OldByte) (o : OldByte) : o ∈ os.foldl remember l ↔ o ∈ l ∨ o ∈ os := by
  induction os generalizing l with
  | nil => simp
  | cons x os ih => rw [List.foldl_cons, ih, mem_remember, List.mem_cons, or_comm (a := o = x), or_assoc]

/-- FLUSH DATA drops the older bytes of the line from the L2 view (20_memory.md R99). -/
theorem mem_l2old_flushData (s : State) (pa : Nat) (o : OldByte) :
    o ∈ (s.flushData pa).l2old ↔ o ∈ s.l2old ∧ sameLine o.1 pa = false := by
  rw [State.flushData_l2old, List.mem_filter, Bool.not_eq_true']

/-- The instruction cache may hold what FLUSH DATA drops from the L2 view (20_memory.md R97, R99; log 16). -/
theorem mem_il1old_flushData (s : State) (pa : Nat) (o : OldByte) :
    o ∈ (s.flushData pa).il1old ↔ o ∈ s.il1old ∨ (o ∈ s.l2old ∧ sameLine o.1 pa = true) := by
  rw [State.flushData_il1old, mem_foldl_remember, List.mem_filter]

/-- FLUSH INST drops the older bytes of the line from the instruction cache (20_memory.md R101). -/
theorem mem_il1old_flushInst (s : State) (pa : Nat) (o : OldByte) :
    o ∈ (s.flushInst pa).il1old ↔ o ∈ s.il1old ∧ sameLine o.1 pa = false := by
  rw [State.flushInst_il1old, List.mem_filter, Bool.not_eq_true']

/-- FLUSH DATA and FLUSH INST differ only in the write they queue for the line (45_control.md R296). -/
theorem laneOf_flush_line {ty : FlushType} (hty : ty = .data ∨ ty = .inst) (p : Pred) (rs : Reg) :
    ∃ mk, laneOf (.flush p ty rs) = flushLineLane mk rs := by
  obtain rfl | rfl := hty
  · exact ⟨.flushData, rfl⟩
  · exact ⟨.flushInst, rfl⟩

section
variable {s : State} {p : Pred} {rs : Reg} {ty : FlushType} (hp : s.holds p = true) (hty : ty = .data ∨ ty = .inst)
include hp hty

/-- A FLUSH of a line whose translation page-faults traps with its address (decisions D17, D40). -/
theorem exec_flush_of_pageFault {fills : List TlbEntry} (h : s.translate 1 .read (s.reg rs) = .pageFault fills) :
    exec (.flush p ty rs) s =
      .next (trapEntry (some ⟨.pageFaultData, some (s.reg rs)⟩) none none none 0b00#2 (s.withFills fills)) := by
  obtain ⟨mk, hlane⟩ := laneOf_flush_line hty p rs
  exact exec_raised (i := .flush p ty rs) hp nofun (by simp only [hlane, flushLineLane, h])

/-- A FLUSH of a line that is no physical memory does nothing further (45_control.md R296). -/
theorem exec_flush_of_invalidPhysical {fills : List TlbEntry}
    (h : s.translate 1 .read (s.reg rs) = .invalidPhysical fills) :
    exec (.flush p ty rs) s = .next (s.withFills fills).advance := by
  obtain ⟨mk, hlane⟩ := laneOf_flush_line hty p rs
  exact exec_done (i := .flush p ty rs) (ws := []) (acc := none) hp nofun (by simp only [hlane, flushLineLane, h])

/-- A FLUSH of a line whose walk reads an unwritten byte stops the machine (70_reset_and_hazards.md R375, log 4, log 25). -/
theorem exec_flush_of_unwritten {a : Nat} (h : s.translate 1 .read (s.reg rs) = .unwritten a) :
    exec (.flush p ty rs) s = .fault (.unwrittenMemory a) := by
  obtain ⟨mk, hlane⟩ := laneOf_flush_line hty p rs
  exact exec_fault (i := .flush p ty rs) hp nofun (by simp only [hlane, flushLineLane, h])

end

/-- Settles O52, by the answer of the translation and, where it gives an address, by the kind of FLUSH. -/
theorem flushLineResults : Obligations.FlushLineResults := by
  refine ⟨exists_lineBytes_eq_two_pow, sameLine_iff, fun s p rs ty fills hp hty => ⟨exec_flush_of_pageFault hp hty,
    exec_flush_of_invalidPhysical hp hty, fun a => exec_flush_of_unwritten hp hty, fun pa h => ?_⟩⟩
  obtain rfl | rfl := hty
  · exact ⟨_, exec_flush_data hp h, rfl, fun _ o => ⟨mem_l2old_flushData _ pa o, mem_il1old_flushData _ pa o⟩, nofun⟩
  · exact ⟨_, exec_flush_inst hp h, rfl, nofun, fun _ => ⟨rfl, mem_il1old_flushInst _ pa⟩⟩

end Sys2Proof.Machine
end

section
/-! The system instructions (46_system.md R301 to R309): O54, O55, O56, O57, from their lanes. -/
namespace Sys2Proof.Machine

/-! ## SYSCALL and BREAK -/

/-- The trap of lane 0 without an address records INT 00 in lane 0, because it is no interrupt (60_exceptions.md R341). -/
theorem intField_ec0_afterTrap (s : State) (c : ExcCode) : intField (s.afterTrap c).ec0 = 0#2 :=
  intField_errorCode _ _ _ _

/-- Settles O54: both lanes raise in either mode, and the trap records the code they raise. -/
theorem syscallAndBreakTrap : Obligations.SyscallAndBreakTrap := by
  intro s p hp i x c hi t
  have hexec : exec i s = .next t := by
    obtain ⟨rfl, rfl, -⟩ | ⟨rfl, rfl, -⟩ := hi
    · exact exec_raise (i := .syscall p) hp nofun rfl
    · exact exec_raise (i := .brk p) hp nofun rfl
  have hcode : x.bits = c := by obtain ⟨-, rfl, rfl⟩ | ⟨-, rfl, rfl⟩ := hi <;> rfl
  obtain ⟨hec1, hec2, hec3⟩ := exnType_other_afterTrap s x
  exact ⟨hexec, trapped_afterTrap s x, (exnType_ec0_afterTrap s x).trans hcode, intField_ec0_afterTrap s x, hec1, hec2, hec3,
    rfl, rfl, rfl⟩

/-! ## ERET -/

/-- A word with its low four bits cleared keeps its upper 28 bits, the PC field of EPC (10_state.md R42). -/
theorem and_packetMask (v : Word) : v &&& 0xFFFFFFF0#32 = v.extractLsb' 4 28 ++ 0#4 := by
  have hmask : 0xFFFFFFF0#32 = BitVec.allOnes 28 ++ 0#4 := rfl
  have hsplit : v.extractLsb' 4 28 ++ v.extractLsb' 0 4 = v := by
    rw [BitVec.extractLsb'_append_extractLsb'_eq_extractLsb' (by omega), BitVec.extractLsb'_eq_self]
  calc v &&& 0xFFFFFFF0#32
    _ = (v.extractLsb' 4 28 ++ v.extractLsb' 0 4) &&& (BitVec.allOnes 28 ++ 0#4) := by rw [hsplit, hmask]
    _ = v.extractLsb' 4 28 ++ 0#4 := by rw [BitVec.and_append, BitVec.and_allOnes, BitVec.and_zero]

/-- What the four writes of ERET make of a state `a`; the new pc overrides the advance (46_system.md R305). -/
theorem applyAll_eretWrites (s a : State) : a.applyAll (eretWrites s) =
    { a with
      pc := s.epc.extractLsb' 4 28 ++ 0#4
      mode := if s.epc.getLsbD epcMBit then .kernel else .user
      ie := s.epc.getLsbD epcIfBit
      link := false } := by
  simp only [State.applyAll, eretWrites, List.foldl, State.apply, and_packetMask]

/-- Settles O55: what ERET queues acts on the state after the advance, and nothing else does. -/
theorem eretRestores : Obligations.EretRestores := by
  intro s p hp hm
  have hexec : exec (.eret p) s = .next (s.advance.applyAll (eretWrites s)) :=
    exec_done (i := .eret p) (acc := none) (fills := []) hp (fun _ => hm) rfl
  rw [hexec, applyAll_eretWrites]
  rfl

/-! ## MFC and MTC -/

/-- PFLAGS reads as a number of two bits (10_state.md R35, R38, decision D26). -/
theorem State.pflags_eq_ofNat (s : State) : s.pflags = BitVec.ofNat 32 (2 * s.pe.toNat + s.ie.toNat) := by
  unfold State.pflags
  cases s.pe <;> cases s.ie <;> rfl

section
variable {s : State} (p : Pred) (r : Reg) {n : CopNum} {c : Cop} (hm : s.mode = .kernel) (hc : copOfNum n = some c)
include hm hc

/-- MFC of an assigned number in kernel mode writes Rd (46_system.md R307). -/
theorem exec_mfc : exec (.mfc p r n) s = .next (s.afterGpr p r (s.readCop c)) :=
  exec_of_lane_gpr (f := .ctl (.mfcOp r n) p) (fun _ => hm) (by simp only [Form.lane, CtlOp.lane, laneMfc, hc])

/-- MTC of an assigned number in kernel mode writes that register (46_system.md R309). -/
theorem exec_mtc : exec (.mtc p n r) s = .next (s.afterIf p fun a => a.writeCop c (s.reg r)) :=
  exec_of_lane_writes (f := .ctl (.mtcOp n r) p) (ws := [.cop c (s.reg r)]) (fun _ => hm)
    (by simp only [Form.lane, CtlOp.lane, laneMtc, hc])

end

/-- Settles O56, register by register. -/
theorem moveFromCoprocessorResults : Obligations.MoveFromCoprocessorResults := by
  intro s p rd hm
  rw [← State.pflags_eq_ofNat]
  have hmove (n : CopNum) (c : Cop) (hc : copOfNum n = some c) := exec_mfc p rd hm hc
  exact ⟨hmove 0 .pflags rfl, hmove 1 .ptb rfl, hmove 2 .eha rfl, hmove 3 .epc rfl, hmove 4 .ec0 rfl, hmove 5 .ec1 rfl,
    hmove 6 .ec2 rfl, hmove 7 .ec3 rfl, hmove 8 .ea0 rfl, hmove 9 .ea1 rfl, hmove 16 .sp0 rfl, hmove 17 .sp1 rfl,
    hmove 18 .sp2 rfl, hmove 19 .sp3 rfl⟩

/-- A write of PTB changes PTB and the TLBs alone (46_system.md R309). -/
theorem State.afterIf_writeCop_ptb (s : State) (p : Pred) (v : Word) :
    let t := s.afterIf p fun a => a.writeCop .ptb v
    t = s.afterIf p fun a => { a with ptb := v, itlb := t.itlb, dtlb := t.dtlb } := by
  simp only [State.afterIf]
  split <;> rfl

/-- Settles O57, register by register. -/
theorem moveToCoprocessorResults : Obligations.MoveToCoprocessorResults := by
  intro s p rs hm v
  have hmove (n : CopNum) (c : Cop) (hc : copOfNum n = some c) := exec_mtc p rs hm hc
  exact ⟨hmove 0 .pflags rfl, ⟨_, hmove 1 .ptb rfl, State.afterIf_writeCop_ptb s p v⟩, hmove 2 .eha rfl, hmove 3 .epc rfl,
    hmove 4 .ec0 rfl, hmove 5 .ec1 rfl, hmove 6 .ec2 rfl, hmove 7 .ec3 rfl, hmove 8 .ea0 rfl, hmove 9 .ea1 rfl,
    hmove 16 .sp0 rfl, hmove 17 .sp1 rfl, hmove 18 .sp2 rfl, hmove 19 .sp3 rfl⟩

end Sys2Proof.Machine
end

section
/-! Trap entry and its uses by a failed fetch and by a kernel-only instruction in user mode (60_exceptions.md R340 to R342,
R338, R350): O16, O18, O60. -/
namespace Sys2Proof.Machine

/-! ## Trap entry -/

/-- Trap entry does for every cause what every cause has in common (60_exceptions.md R340). -/
theorem trapped_trapEntry (x0 x1 x2 x3 : Option Exc) (int : BitVec 2) (s : State) :
    trapped s (trapEntry x0 x1 x2 x3 int s) :=
  ⟨rfl, rfl, rfl, rfl, rfl, rfl, rfl, rfl, rfl, rfl, rfl, rfl, rfl, rfl, rfl, rfl, rfl⟩

/-- The places of M and IF are two different ones of the low four bits (10_state.md R42; log 8). -/
theorem epcBits_spec : epcMBit < 4 ∧ epcIfBit < 4 ∧ epcMBit ≠ epcIfBit := by
  have hm := Config.epcMSelect.isLt
  have hif := Config.epcIfSelect.isLt
  unfold epcIfBit epcMBit
  omega

/-- The bits of a word that holds one flag. -/
theorem getLsbD_flag (b : Bool) (m : Nat) {k : Nat} (hk : k < 32) :
    (bif b then 1#32 <<< m else 0#32).getLsbD k = (decide (k = m) && b) := by
  cases b with
  | false => simp
  | true =>
    simp only [cond_true, BitVec.getLsbD_shiftLeft, BitVec.getLsbD_one, Bool.and_true, hk, decide_true, Bool.true_and]
    grind

/-- Trap entry writes into EPC the packet address of the pc, the mode in M and IE in IF (60_exceptions.md R340). -/
theorem getLsbD_epcImage (s : State) {k : Nat} (hk : k < 32) : s.epcImage.getLsbD k =
    (decide (4 ≤ k) && s.pc.getLsbD k || decide (k = epcMBit) && decide (s.mode = .kernel) ||
      decide (k = epcIfBit) && s.ie) := by
  have hpc : (s.pc &&& 0xFFFFFFF0#32).getLsbD k = (decide (4 ≤ k) && s.pc.getLsbD k) := by
    rw [and_packetMask, BitVec.getLsbD_append]
    by_cases h : k < 4
    · simp [h]
    · simp [h, Nat.le_of_not_lt h, show k - 4 < 28 by omega]
  have hmode : (if s.mode = .kernel then 1#32 <<< epcMBit else 0#32) =
      bif decide (s.mode = .kernel) then 1#32 <<< epcMBit else 0#32 := (Bool.cond_decide _ _ _).symm
  rw [State.epcImage, hmode, BitVec.getLsbD_or, BitVec.getLsbD_or, hpc, getLsbD_flag _ _ hk, getLsbD_flag _ _ hk]

/-- The PC field of EPC is that of the pc (10_state.md R42). -/
theorem extract_epcImage (s : State) : s.epcImage.extractLsb' 4 28 = s.pc.extractLsb' 4 28 := by
  obtain ⟨hm, hif, -⟩ := epcBits_spec
  refine BitVec.eq_of_getLsbD_eq fun i hi => ?_
  have hmne : 4 + i ≠ epcMBit := by omega
  have hifne : 4 + i ≠ epcIfBit := by omega
  simp [BitVec.getLsbD_extractLsb', getLsbD_epcImage s (show 4 + i < 32 by omega), hmne, hifne]

/-- Settles O16: the fields of EPC by getLsbD_epcImage, those of the error cause registers by their lemmas. -/
theorem trapEntrySavesAndSets : Obligations.TrapEntrySavesAndSets := by
  intro x0 x1 x2 x3 int s t
  obtain ⟨hm, hif, hne⟩ := epcBits_spec
  have hbit : ∀ k, k < 4 → t.epc.getLsbD k =
      (decide (k = epcMBit) && decide (s.mode = .kernel) || decide (k = epcIfBit) && s.ie) := fun k hk => by
    rw [show t.epc = s.epcImage from rfl, getLsbD_epcImage s (by omega)]
    simp [Nat.not_le.mpr hk]
  refine ⟨trapped_trapEntry x0 x1 x2 x3 int s, ⟨extract_epcImage s, ?_, ?_, hm, hif, hne, fun k hk hkm hkif => ?_⟩, ?_, ?_,
    ⟨newEa_eq s.ea0 x0, newEa_eq s.ea1 x1⟩, rfl, rfl, rfl, rfl, rfl, rfl, rfl, rfl⟩
  · simp [hbit _ hm, hne]
  · simp [hbit _ hif, hne.symm]
  · simp [hbit k hk, hkm, hkif]
  · exact ⟨exnType_errorCode _ _ _ _, exnType_errorCode _ _ _ _, exnType_errorCode _ _ _ _, exnType_errorCode _ _ _ _⟩
  · exact ⟨intField_errorCode _ _ _ _, intField_errorCode _ _ _ _, intField_errorCode _ _ _ _, intField_errorCode _ _ _ _⟩

/-! ## A fetch that fails -/

/-- A step whose fetch fails has trapped with the code in EC0 alone; the instruction TLB has taken up what the translation
found, and nothing else outside the trap changes (60_exceptions.md R338, decision D18; 20_memory.md R88). -/
theorem fetchFault_spec (c : ExcCode) (fills : List TlbEntry) (s : State) :
    let t := fetchFault c (s.passBoundary.fillFetch fills)
    trapped s t ∧ exnType t.ec0 = c.bits ∧ exnType t.ec1 = 0#5 ∧ exnType t.ec2 = 0#5 ∧ exnType t.ec3 = 0#5 ∧
      (∀ k, k < 4 → intField (t.ec k) = 0#2) ∧ t.ea0 = s.ea0 ∧ t.ea1 = s.ea1 ∧
      (∀ e, e ∈ t.itlb ↔ e ∈ s.itlb ∨ e ∈ fills) ∧ sameOutsideFetch s t := by
  refine ⟨trapped_trapEntry _ _ _ _ _ (s.passBoundary.fillFetch fills), exnType_errorCode _ _ _ _, exnType_errorCode _ _ _ _,
    exnType_errorCode _ _ _ _, exnType_errorCode _ _ _ _, fun k hk => ?_, rfl, rfl, fun e => mem_fillTlb,
    rfl, rfl, rfl, rfl, rfl, rfl, rfl⟩
  match k, hk with
  | 0, _ => exact intField_errorCode _ _ _ _
  | 1, _ => exact intField_errorCode _ _ _ _
  | 2, _ => exact intField_errorCode _ _ _ _
  | 3, _ => exact intField_errorCode _ _ _ _

/-- With paging off an address that does not exist is refused as it stands (20_memory.md R93, decision D2). -/
theorem translate_of_not_physValid {s : State} {va : Word} (hpe : s.pe = false) (hv : s.physValid va.toNat = false)
    (port : Nat) (kind : AccessKind) : s.translate port kind va = .invalidPhysical [] := by
  simp [State.translate, hpe, hv]

/-- Settles O18, by what the translation of the pc answers. -/
theorem failedFetchTrapsWithItsCode : Obligations.FailedFetchTrapsWithItsCode := by
  intro s hirq traps
  have hstep : step s = fetchAndRun s.passBoundary := by simp only [step, hirq]
  have hpc : s.passBoundary.pc = s.pc := rfl
  have hinvalid : ∀ fills, s.passBoundary.translate 0 .fetch s.pc = .invalidPhysical fills → traps 0b00101#5 fills :=
    fun fills h => ⟨_, by rw [hstep, fetchAndRun, hpc, h], fetchFault_spec .invalidPhysical fills s⟩
  refine ⟨hinvalid, fun fills h => ?_, fun hpe hv => ?_, fun a h => ?_, fun pa fills h hpacket => ?_⟩
  · exact ⟨_, by rw [hstep, fetchAndRun, hpc, h], fetchFault_spec .pageFaultFetch fills s⟩
  · exact hinvalid [] (translate_of_not_physValid (s := s.passBoundary) hpe hv 0 .fetch)
  · rw [hstep, fetchAndRun, hpc, h]
  · simp only [hstep, fetchAndRun, hpc, h, hpacket]

/-! ## A kernel-only instruction in user mode -/

/-- A kernel-only instruction that executes alone in user mode takes the trap of Illegal Instruction (60_exceptions.md R350). -/
theorem exec_of_kernelOnly_of_user {i : Instr} {s : State} (hko : i.kernelOnly = true) (hp : s.holds i.pred = true)
    (hm : s.mode = .user) : exec i s = .next (s.afterTrap .illegalInstruction) := by
  rw [exec_eq_runAlone, hko, runAlone_of_user _ _ _ hp hm]
  rfl

/-- Settles O60: each of the three is kernel-only. -/
theorem kernelInstructionsTrapInUserMode : Obligations.KernelInstructionsTrapInUserMode := by
  intro s p r n i hm hp hi t
  have hexec : exec i s = .next t := by
    obtain rfl | rfl | rfl := hi
    · exact exec_of_kernelOnly_of_user rfl hp hm
    · exact exec_of_kernelOnly_of_user rfl hp hm
    · exact exec_of_kernelOnly_of_user rfl hp hm
  obtain ⟨hec1, hec2, hec3⟩ := exnType_other_afterTrap s .illegalInstruction
  exact ⟨hexec, trapped_afterTrap s _, exnType_ec0_afterTrap s _, hec1, hec2, hec3, rfl, rfl, rfl⟩

end Sys2Proof.Machine
end

section
/-! The mode and the privileged state (60_exceptions.md R350, R351, 10_state.md R30 to R32): O22, O23. -/
namespace Sys2Proof.Machine

/-! ## The privileged state -/

/-- What kernel mode alone may change without a trap: the mode, PFLAGS and the coprocessor registers (60_exceptions.md R350,
10_state.md R31, R32). -/
def State.privileged (s : State) : Mode × Bool × Bool × (Cop → Word) := (s.mode, s.ie, s.pe, s.readCop)

/-- The write is one of the privileged state. -/
def Write.privileged : Write → Bool
  | .cop .. => true
  | .mode _ => true
  | .ie _ => true
  | _ => false

/-- Only kernel-only instructions write the privileged state (46_system.md R300). -/
theorem kernelOnly_of_privileged {s : State} {f : Form} {w : Write} (hw : w.privileged = true) (h : Form.mayQueue s f w) :
    f.kernelOnly = true := by
  cases w with
  | cop c v => obtain ⟨n, rs, p, -, rfl⟩ := h; rfl
  | mode m => obtain ⟨p, rfl⟩ := h; rfl
  | ie b => obtain ⟨p, rfl⟩ := h; rfl
  | _ => cases hw

theorem apply_pe {w : Write} (h : ∀ v, w ≠ .cop .pflags v) (s : State) : (s.apply w).pe = s.pe := by
  cases w with
  | cop c v =>
    cases c with
    | pflags => exact absurd rfl (h v)
    | _ => rfl
  | pred n b => exact State.setPredReg_pe s n b
  | store pa n v => exact storeBytes_keeps State.pe (fun _ _ _ => rfl) s pa n v
  | _ => rfl

/-- Any other write leaves the privileged state alone. -/
theorem apply_privileged {w : Write} (hw : w.privileged = false) (s : State) : (s.apply w).privileged = s.privileged := by
  have hcop : ∀ c v, w ≠ .cop c v := by rintro c v rfl; cases hw
  have hmode : ∀ m, w ≠ .mode m := by rintro m rfl; cases hw
  have hie : ∀ b, w ≠ .ie b := by rintro b rfl; cases hw
  have hread : (s.apply w).readCop = s.readCop := funext fun c => apply_readCop (hcop c) (fun _ => hie) s
  simp only [State.privileged, apply_mode hmode, apply_ie hie (hcop .pflags), apply_pe (hcop .pflags), hread]

/-! ## User mode -/

/-- In user mode a slot that queues a write holds no kernel-only instruction: such an instruction raises
(60_exceptions.md R350, decision D9). -/
theorem kernelOnly_eq_false_of_mem_queue {ls : List (Nat × Instr)} {s : State} {k : Nat} {i : Instr} {w : Write}
    (hm : s.mode = .user) (h : w ∈ (runSlot ls s k (.instr i)).queue) : i.kernelOnly = false := by
  by_contra hko
  have hraise : (runSlot ls s k (.instr i)).queue = [] := by
    simp only [runSlot, guardLane, Bool.of_not_eq_false hko, hm, beq_self_eq_true, Bool.and_self, if_true]
    split
    · split <;> rfl
    · rfl
  rw [hraise] at h
  cases h

/-- In user mode no packet queues a write of the privileged state. -/
theorem privileged_eq_false_of_user {slots : List Slot} {s : State} {w : Write} (hm : s.mode = .user)
    (h : w ∈ (lanesOut slots s).flatMap LaneOut.queue) : w.privileged = false := by
  obtain ⟨o, ho, hw⟩ := List.mem_flatMap.mp h
  obtain ⟨k, x, -, rfl⟩ := mem_lanesOut.mp ho
  obtain ⟨i, rfl, -, -, hq⟩ := exists_instr_of_mem_queue hw
  by_contra hpriv
  have hko : i.kernelOnly = true := kernelOnly_of_privileged (Bool.of_not_eq_false hpriv) hq
  exact absurd (hko.symm.trans (kernelOnly_eq_false_of_mem_queue hm hw)) nofun

/-- A packet in user mode leaves the privileged state alone, or traps. -/
theorem runPacket_of_user {slots : List Slot} {s t : State} (hm : s.mode = .user) (h : runPacket slots s = .next t) :
    t.privileged = s.privileged ∨ trapped s t := by
  obtain rfl | rfl := runPacket_next h
  · exact .inl (commit_keeps State.privileged (fun _ _ _ => rfl) fun w hw =>
      apply_privileged (privileged_eq_false_of_user hm hw))
  · exact .inr (trapped_trapPacket _ s)

/-- A step in user mode leaves the privileged state alone, or traps: an interrupt and a failed fetch trap. -/
theorem step_of_user {s t : State} (hm : s.mode = .user) (h : step s = .next t) :
    t.privileged = s.privileged ∨ trapped s t := by
  obtain ⟨c, -, rfl⟩ | ⟨-, fills, -, rfl⟩ | ⟨-, fills, -, rfl⟩ | ⟨-, pa, fills, slots, -, -, hrun⟩ := step_cases h
  · exact .inr (trapped_takeInterrupt c s)
  · exact .inr (trapped_afterTrap (s.passBoundary.fillFetch fills) .pageFaultFetch)
  · exact .inr (trapped_afterTrap (s.passBoundary.fillFetch fills) .invalidPhysical)
  · exact (runPacket_of_user (s := s.passBoundary.fillFetch fills) hm hrun :)

/-- Settles O22: the privileged state read off field by field. -/
theorem userModeReachesKernelStateOnlyByTrap : Obligations.UserModeReachesKernelStateOnlyByTrap := by
  intro s t hm h
  refine (step_of_user hm h).imp_left fun hpriv => ?_
  simp only [State.privileged, Prod.mk.injEq] at hpriv
  obtain ⟨hmode, hie, hpe, hread⟩ := hpriv
  have hcop : ∀ c, t.readCop c = s.readCop c := congrFun hread
  exact ⟨hmode.trans hm, hie, hpe, hcop .ptb, hcop .eha, hcop .epc, hcop .ec0, hcop .ec1, hcop .ec2, hcop .ec3, hcop .ea0,
    hcop .ea1, hcop .sp0, hcop .sp1, hcop .sp2, hcop .sp3⟩

/-! ## Kernel mode -/

/-- A packet with a next state either has a lane that raises, and traps, or commits. -/
theorem runPacket_commits_or_traps {slots : List Slot} {s t : State} (h : runPacket slots s = .next t) :
    (raisesNothing slots s ∧ t = commit (lanesOut slots s) s) ∨ t = trapPacket (lanesOut slots s) s := by
  by_cases hr : raisesNothing slots s
  · exact .inl ⟨hr, runPacket_next_of_raisesNothing h hr⟩
  · simp only [raisesNothing, not_forall] at hr
    obtain ⟨k, x, hk, hx⟩ := hr
    obtain ⟨e, he⟩ := Option.ne_none_iff_exists'.mp hx
    exact .inr (runPacket_of_raise h hk he).1

/-- A packet that queues a write of the mode holds an ERET in slot 0 whose predicate is true (46_system.md R305). -/
theorem eret_of_mode_mem_queue {slots : List Slot} {s : State} {m : Mode}
    (h : .mode m ∈ (lanesOut slots s).flatMap LaneOut.queue) :
    ∃ p, slots[0]? = some (.instr (.eret p)) ∧ s.holds p = true := by
  obtain ⟨o, ho, hw⟩ := List.mem_flatMap.mp h
  obtain ⟨k, x, hk, rfl⟩ := mem_lanesOut.mp ho
  obtain ⟨i, rfl, hallow, hp, hq⟩ := exists_instr_of_mem_queue hw
  obtain rfl | hpos := Nat.eq_zero_or_pos k
  · obtain ⟨p, hform⟩ := hq
    have hi : i = .eret p := by rw [← instr_form i, hform]; rfl
    subst hi
    exact ⟨p, hk, hp⟩
  · cases ofControl_eq_false hpos hallow hq

/-- Each write of an executing ERET shows after its packet, if no lane of it raises (40_packet_and_operands.md R166). -/
theorem doneIn_of_mem_eretWrites {slots : List Slot} {s t : State} {p : Pred} (h : runPacket slots s = .next t)
    (hr : raisesNothing slots s) (h0 : slots[0]? = some (.instr (.eret p))) (hp : s.holds p = true) {w : Write}
    (hw : w ∈ eretWrites s) : Write.doneIn s t w := by
  have hslot : runSlot (lanesFrom 0 slots) s 0 (.instr (.eret p)) = .writes (eretWrites s) :=
    (runSlot_of_exc_eq_none (hr 0 _ h0)).trans (if_pos hp)
  exact doneIn_of_mem_queue h hr (List.mem_flatMap.mpr ⟨_, mem_lanesOut.mpr ⟨0, _, h0, rfl⟩, by rw [hslot]; exact hw⟩)

/-- A packet leads from kernel mode to user mode only by an ERET in slot 0 with EPC[M] = 0, whose writes show after it
(60_exceptions.md R351, 46_system.md R305). -/
theorem runPacket_leaves_kernel {slots : List Slot} {s t : State} (hm : s.mode = .kernel) (h : runPacket slots s = .next t)
    (ht : t.mode = .user) : s.epc.getLsbD epcMBit = false ∧ t.pc = s.epc &&& 0xFFFFFFF0#32 ∧ t.ie = s.epc.getLsbD epcIfBit ∧
      t.link = false ∧ ∃ p, slots[0]? = some (.instr (.eret p)) ∧ s.holds p = true := by
  obtain ⟨hr, hcommit⟩ | rfl := runPacket_commits_or_traps h
  · have hqueue : ∃ m, .mode m ∈ (lanesOut slots s).flatMap LaneOut.queue := by
      by_contra hno
      have hkeep : (commit (lanesOut slots s) s).mode = s.mode :=
        commit_keeps State.mode (fun _ _ _ => rfl) fun w hw u => apply_mode (fun m e => hno ⟨m, e ▸ hw⟩) u
      rw [hcommit, hkeep, hm] at ht
      cases ht
    obtain ⟨m, hq⟩ := hqueue
    obtain ⟨p, h0, hp⟩ := eret_of_mode_mem_queue hq
    have hdone : ∀ w ∈ eretWrites s, Write.doneIn s t w := fun w => doneIn_of_mem_eretWrites h hr h0 hp
    simp only [eretWrites, List.forall_mem_cons] at hdone
    obtain ⟨hpc, hmode, hie, hlink, -⟩ := hdone
    refine ⟨?_, hpc, hie, hlink, p, h0, hp⟩
    by_contra hM
    have hkernel : t.mode = .kernel := hmode.trans (if_pos (Bool.of_not_eq_false hM))
    cases hkernel.symm.trans ht
  · cases ht

/-- Settles O23: an interrupt, a failed fetch and a packet's trap lead to kernel mode. -/
theorem kernelModeIsLeftOnlyByEret : Obligations.KernelModeIsLeftOnlyByEret := by
  intro s t hm h ht
  obtain ⟨c, -, rfl⟩ | ⟨-, fills, -, rfl⟩ | ⟨-, fills, -, rfl⟩ | ⟨hirq, pa, fills, slots, htrans, hpacket, hrun⟩ := step_cases h
  · cases ht
  · cases ht
  · cases ht
  · obtain ⟨hM, hpc, hie, hlink, p, h0, hp⟩ := runPacket_leaves_kernel (s := s.passBoundary.fillFetch fills) hm hrun ht
    cases slots with
    | nil => cases h0
    | cons x xs =>
      cases Option.some.inj h0
      exact ⟨hirq, hM, hpc, hie, hlink, pa, fills, p, xs, htrans, hpacket, hp⟩

end Sys2Proof.Machine
end

section
/-! The traps of the memory instructions (60_exceptions.md R325, R326, R341, R342): O44. -/
namespace Sys2Proof.Machine

/-! ## One lane that raises among idle ones -/

/-- The exception of lane `j` of a packet whose lane `k` alone raises, and raises `x` (60_exceptions.md R341). -/
def onlyExc (k : Nat) (x : Exc) (j : Nat) : Option Exc := if k = j then some x else none

/-- The data TLB takes up what the one lane that is not idle translates. -/
theorem fills_of_only_lane {outs : List LaneOut} {k : Nat} {o : LaneOut} (ho : outs[k]? = some o)
    (hidle : ∀ j y, j ≠ k → outs[j]? = some y → y = LaneOut.idle) : outs.flatMap LaneOut.fills = o.fills := by
  induction outs generalizing k with
  | nil => cases ho
  | cons y ys ih =>
    cases k with
    | zero =>
      obtain rfl := Option.some.inj ho
      have hrest : ys.flatMap LaneOut.fills = [] := List.flatMap_eq_nil_iff.mpr fun z hz => by
        obtain ⟨j, hj⟩ := List.mem_iff_getElem?.mp hz
        rw [hidle (j + 1) z (Nat.succ_ne_zero j) hj]
        rfl
      rw [List.flatMap_cons, hrest, List.append_nil]
    | succ k =>
      obtain rfl := hidle 0 y (Nat.succ_ne_zero k).symm rfl
      exact ih ho fun j z hj hz => hidle (j + 1) z (fun e => hj (Nat.succ.inj e)) hz

/-- A packet whose lane `k` raises and whose other lanes are idle traps, after what the data TLB takes up
(60_exceptions.md R340, R341, decision D17). -/
theorem finish_of_only_raised {outs : List LaneOut} {k : Nat} {x : Exc} {fills : List TlbEntry}
    (ho : outs[k]? = some (.raised x fills)) (hidle : ∀ j y, j ≠ k → outs[j]? = some y → y = LaneOut.idle) (s : State) :
    finish outs s = .next (trapEntry (onlyExc k x 0) (onlyExc k x 1) (onlyExc k x 2) (onlyExc k x 3) 0b00#2
      (s.withFills fills)) := by
  have hmem : ∀ y ∈ outs, y = .raised x fills ∨ y = LaneOut.idle := fun y hy => by
    obtain ⟨j, hj⟩ := List.mem_iff_getElem?.mp hy
    by_cases hjk : j = k
    · subst hjk
      exact .inl (Option.some.inj (hj.symm.trans ho))
    · exact .inr (hidle j y hjk hj)
  have hstop : firstStop outs = none := (firstStop_eq_none_iff outs).mpr fun y hy => by
    obtain rfl | rfl := hmem y hy <;> rfl
  have haccess : outs.filterMap LaneOut.access = [] := List.filterMap_eq_nil_iff.mpr fun y hy => by
    obtain rfl | rfl := hmem y hy <;> rfl
  have hqueue : outs.flatMap LaneOut.queue = [] := List.flatMap_eq_nil_iff.mpr fun y hy => by
    obtain rfl | rfl := hmem y hy <;> rfl
  have hraise : (outs.any fun y => y.exc.isSome) = true := List.any_eq_true.mpr ⟨_, List.mem_of_getElem? ho, rfl⟩
  have hstores : survivingStores outs s = [] := List.sublist_nil.mp (hqueue ▸ survivingStores_sublist outs s)
  have hfills : s.fillData outs = s.withFills fills := by
    rw [State.fillData, fills_of_only_lane ho hidle]
    rfl
  have hexc : ∀ j, (outs[j]?).bind LaneOut.exc = onlyExc k x j := fun j => by
    unfold onlyExc
    split
    · rename_i hkj
      rw [← hkj, ho]
      rfl
    · rename_i hkj
      cases hj : outs[j]? with
      | none => rfl
      | some y => rw [hidle j y (Ne.symm hkj) hj]; rfl
  simp only [finish, hstop, haccess, anyConflict, hraise, trapPacket, hexc, hstores, hfills, State.applyAll, List.foldl_nil,
    Bool.false_eq_true, if_false, if_true]

/-- A packet in which an instruction alone executes ends with what its lane and idle lanes yield. -/
theorem lanesOut_of_soleIn {slots : List Slot} {s : State} {k : Nat} {i : Instr} (h : soleIn k i slots s)
    (hko : i.kernelOnly = false) (hp : s.holds i.pred = true) : runPacket slots s = finish (lanesOut slots s) s ∧
      (lanesOut slots s)[k]? = some (laneOf i k s) ∧
      ∀ j o, j ≠ k → (lanesOut slots s)[j]? = some o → o = LaneOut.idle := by
  obtain ⟨-, hk, -⟩ := id h
  have hlane : ∀ j, (lanesOut slots s)[j]? = slots[j]?.map (runSlot (lanesFrom 0 slots) s j) := fun j => by
    rw [lanesOut, getElem?_runSlots, Nat.zero_add]
  refine ⟨by simp only [runPacket, packetRefusal_of_soleIn h, lanesOut], ?_, fun j o hjk ho => ?_⟩
  · rw [hlane, hk, Option.map_some, runSlot_eq_laneOf (namesDistinct_of_soleIn h) (allowedIn_of_soleIn h hk) hko hp]
  · rw [hlane] at ho
    obtain ⟨x, hx, rfl⟩ := Option.map_eq_some_iff.mp ho
    exact runSlot_other_of_soleIn h hjk hx

/-- An instruction whose lane raises takes the trap, with its exception in its lane and none in the others. -/
theorem runsTo_raised {k : Nat} {f : Form} {s : State} {x : Exc} {fills : List TlbEntry} (hko : f.kernelOnly = false)
    (hp : s.holds f.pred = true) (h : Form.lane k s f = .raised x fills) :
    runsTo k f.instr s (.next (trapEntry (onlyExc k x 0) (onlyExc k x 1) (onlyExc k x 2) (onlyExc k x 3) 0b00#2
      (s.withFills fills))) := by
  have hko' : f.instr.kernelOnly = false := (congrArg Form.kernelOnly (form_instr f)).trans hko
  have hp' : s.holds f.instr.pred = true := (congrArg (s.holds ·.pred) (form_instr f)).trans hp
  have hlane : laneOf f.instr k s = .raised x fills := by rw [laneOf_eq_lane, form_instr, h]
  refine ⟨?_, fun slots hsole => ?_⟩
  · rintro rfl
    exact exec_raised hp' (fun hk => absurd (hko'.symm.trans hk) Bool.false_ne_true) hlane
  · obtain ⟨hrun, hself, hidle⟩ := lanesOut_of_soleIn hsole hko' hp'
    rw [hrun]
    exact finish_of_only_raised (hself.trans (congrArg some hlane)) hidle s

/-! ## A data access that fails -/

/-- What a data access at `addr` yields where the translation of its aligned address gives no physical address: an exception
with the address before alignment, or a stop (60_exceptions.md R325, R326, R342, decision D40; log 25). -/
def TransResult.failure (addr : Word) : TransResult → Option LaneOut
  | .ok .. => none
  | .pageFault fills => some (.raised ⟨.pageFaultData, some addr⟩ fills)
  | .invalidPhysical fills => some (.raised ⟨.invalidPhysical, some addr⟩ fills)
  | .unwritten a => some (.fault (.unwrittenMemory a))

theorem accessLane_of_failure {s : State} {k n : Nat} {kind : AccessKind} {addr : Word} {res : TransResult} {out : LaneOut}
    (hres : res.failure addr = some out) (h : s.translate (k + 1) kind (alignDown addr n) = res)
    (use : Nat → List TlbEntry → LaneOut) : accessLane s k n kind addr use = out := by
  unfold accessLane
  rw [h]
  cases res with
  | ok pa fills => cases hres
  | _ => exact Option.some.inj hres

section
variable {s : State} {k : Nat} {p : Pred} {r rs : Reg} {off : BitVec 12} {ea : Word} {res : TransResult} {out : LaneOut}
  (hres : res.failure (dataAddr s rs off) = some out)
include hres

/-- A load whose access fails yields the failure (43_load_store.md R241 to R244). -/
theorem lane_load_of_failure {o : LoadOp} (hea : alignDown (dataAddr s rs off) (LoadOp.bytes o) = ea)
    (h : s.translate (k + 1) .read ea = res) : Form.lane k s (.load o p r rs off) = out :=
  accessLane_of_failure hres (hea ▸ h) _

/-- A store whose access fails yields the failure (43_load_store.md R245 to R248). -/
theorem lane_store_of_failure {o : StoreOp} {n : Nat} {ws : List Write}
    (hlane : StoreOp.lane o r rs off k s = storeLane n ws r rs off k s) (hea : alignDown (dataAddr s rs off) n = ea)
    (h : s.translate (k + 1) .write ea = res) : Form.lane k s (.store o p r rs off) = out :=
  hlane.trans (accessLane_of_failure hres (hea ▸ h) _)

end

/-- Each memory instruction has the outcome `o` where the translation of its aligned address answers `res`; SC with the link
bit set (60_exceptions.md R325, R326, decision D47). -/
def eachMemoryRunsTo (s : State) (k : Nat) (p : Pred) (r rs : Reg) (off : BitVec 12) (res : TransResult)
    (o : Host.Outcome State Fault Refusal) : Prop :=
  let addr := dataAddr s rs off
  let gives (kind : AccessKind) (ea : Word) (i : Instr) : Prop := s.translate (k + 1) kind ea = res → runsTo k i s o
  gives .read addr (.lb p r rs off) ∧ gives .read (addr &&& 0xFFFFFFFE#32) (.lh p r rs off) ∧
  gives .read (addr &&& 0xFFFFFFFC#32) (.lw p r rs off) ∧ gives .read (addr &&& 0xFFFFFFFC#32) (.ll p r rs off) ∧
  gives .write addr (.sb p r rs off) ∧ gives .write (addr &&& 0xFFFFFFFE#32) (.sh p r rs off) ∧
  gives .write (addr &&& 0xFFFFFFFC#32) (.sw p r rs off) ∧
  (s.link = true → gives .write (addr &&& 0xFFFFFFFC#32) (.sc p r rs off))

/-- The outcome of a failed access is the same for each memory instruction: what an instruction whose lane yields the failure
has as its outcome. -/
theorem eachMemoryRunsTo_of_failure {s : State} {k : Nat} {p : Pred} {r rs : Reg} {off : BitVec 12} {res : TransResult}
    {out : LaneOut} {o : Host.Outcome State Fault Refusal} (hp : s.holds p = true)
    (hres : res.failure (dataAddr s rs off) = some out)
    (hout : ∀ f : Form, f.kernelOnly = false → s.holds f.pred = true → Form.lane k s f = out → runsTo k f.instr s o) :
    eachMemoryRunsTo s k p r rs off res o := by
  have ea1 := alignDown_one (dataAddr s rs off)
  have ea2 := alignDown_two (dataAddr s rs off)
  have ea4 := alignDown_four (dataAddr s rs off)
  refine ⟨fun h => ?_, fun h => ?_, fun h => ?_, fun h => ?_, fun h => ?_, fun h => ?_, fun h => ?_, fun hlink h => ?_⟩
  · exact hout (.load .lbOp p r rs off) rfl hp (lane_load_of_failure hres ea1 h)
  · exact hout (.load .lhOp p r rs off) rfl hp (lane_load_of_failure hres ea2 h)
  · exact hout (.load .lwOp p r rs off) rfl hp (lane_load_of_failure hres ea4 h)
  · exact hout (.load .llOp p r rs off) rfl hp (lane_load_of_failure hres ea4 h)
  · exact hout (.store .sbOp p r rs off) rfl hp (lane_store_of_failure hres rfl ea1 h)
  · exact hout (.store .shOp p r rs off) rfl hp (lane_store_of_failure hres rfl ea2 h)
  · exact hout (.store .swOp p r rs off) rfl hp (lane_store_of_failure hres rfl ea4 h)
  · have hlane : laneSc r rs off k s = storeLane 4 [.pred 0 true, .link false] r rs off k s := if_pos hlink
    exact hout (.store .scOp p r rs off) rfl hp (lane_store_of_failure hres hlane ea4 h)

/-- Settles O44, by the answer of the translation: its exception in lane 0 or 1, or the stop. -/
theorem memoryInstructionsTrapWithTheirAddress : Obligations.MemoryInstructionsTrapWithTheirAddress := by
  intro s k p r rs off hk hp addr every trap
  have htrap : ∀ (c : ExcCode) (fills : List TlbEntry) (f : Form), f.kernelOnly = false → s.holds f.pred = true →
      Form.lane k s f = .raised ⟨c, some addr⟩ fills → runsTo k f.instr s (trap c fills) := fun c fills f hko hpf h => by
    have hrun := runsTo_raised hko hpf h
    have h2 : onlyExc k ⟨c, some addr⟩ 2 = none := if_neg (by omega)
    have h3 : onlyExc k ⟨c, some addr⟩ 3 = none := if_neg (by omega)
    rw [h2, h3] at hrun
    exact hrun
  refine ⟨fun fills => ?_, fun fills => ?_, fun a => ?_⟩
  · exact eachMemoryRunsTo_of_failure hp rfl (htrap .pageFaultData fills)
  · exact eachMemoryRunsTo_of_failure hp rfl (htrap .invalidPhysical fills)
  · exact eachMemoryRunsTo_of_failure hp rfl fun f hko hpf h => runsTo_fault hko hpf h

end Sys2Proof.Machine
end
